-- ==== Sys2Proof/Word.lean ====
section
/-! DEFINITION. The word types of the machine (`00_scope.md` R6, R7): bytes of data registers, 16-bit CPU-view
addresses, 32-bit quads and pointers, 28-bit physical addresses. -/

namespace Sys2Proof

/-- An 8-bit value: a data register, an operand byte, a byte of memory (R6 `XLEN`). -/
abbrev Byte := BitVec 8

/-- A 16-bit value: the program counter, a CPU-view address, a word operand (R6 `PCLEN`, `VALEN`). -/
abbrev Word := BitVec 16

/-- A 32-bit value: the pseudo register Q, a quad of memory, a flat pointer (R6 `QLEN`). -/
abbrev Quad := BitVec 32

/-- A 28-bit physical address (R6 `PALEN`). -/
abbrev Phys := BitVec 28

end Sys2Proof
end

