-- ==== Sys2Proof/Syntax.lean ====
section
/-! DEFINITION. The instruction syntax: one constructor for each row of `spec/opcode_table.json`, in the table's order
(256 base, 59 Q, 8 far, 8 Q-far, 39 reserved: `30_encoding.md` R115 to R120). A constructor carries the row's operand
bytes (R111, R112): `nn` a base-page or stack offset, `a` a 16-bit address, `v` or `w` an immediate, `d` a displacement,
`n` the count of `RTS #n`, `sig` the signature byte of `BRK`. A name is the mnemonic and the addressing mode. -/

namespace Sys2Proof

/-- The instructions of the 4510 personality with the 45GS02's compound instructions (R2). -/
inductive Instr where
  /-- BRK: `00`; R429. -/
  | brk (sig : Byte)
  /-- ORA (bp,X): `01`; R344. -/
  | oraBpXInd (nn : Byte)
  /-- CLE: `02`; R437. -/
  | cle
  /-- SEE: `03`; R438. -/
  | see
  /-- TSB bp: `04`; R372. -/
  | tsbBp (nn : Byte)
  /-- ORA bp: `05`; R344. -/
  | oraBp (nn : Byte)
  /-- ASL bp: `06`; R351. -/
  | aslBp (nn : Byte)
  /-- RMB0 bp: `07`; R374. -/
  | rmb0 (nn : Byte)
  /-- PHP: `08`; R305. -/
  | php
  /-- ORA #: `09`; R344. -/
  | oraImm (v : Byte)
  /-- ASL A: `0A`; R351. -/
  | aslA
  /-- TSY: `0B`; R295. -/
  | tsy
  /-- TSB abs: `0C`; R372. -/
  | tsbAbs (a : Word)
  /-- ORA abs: `0D`; R344. -/
  | oraAbs (a : Word)
  /-- ASL abs: `0E`; R351. -/
  | aslAbs (a : Word)
  /-- BBR0 bp,rel: `0F`; R415. -/
  | bbr0 (nn : Byte) (d : Byte)
  /-- BPL rel: `10`; R401. -/
  | bplRel (d : Byte)
  /-- ORA (bp),Y: `11`; R344. -/
  | oraBpIndY (nn : Byte)
  /-- ORA (bp),Z: `12`; R344. -/
  | oraBpIndZ (nn : Byte)
  /-- BPL relw: `13`; R401. -/
  | bplRelW (d : Word)
  /-- TRB bp: `14`; R373. -/
  | trbBp (nn : Byte)
  /-- ORA bp,X: `15`; R344. -/
  | oraBpX (nn : Byte)
  /-- ASL bp,X: `16`; R351. -/
  | aslBpX (nn : Byte)
  /-- RMB1 bp: `17`; R374. -/
  | rmb1 (nn : Byte)
  /-- CLC: `18`; R430. -/
  | clc
  /-- ORA abs,Y: `19`; R344. -/
  | oraAbsY (a : Word)
  /-- INC A: `1A`; R361. -/
  | incA
  /-- INZ: `1B`; R365. -/
  | inz
  /-- TRB abs: `1C`; R373. -/
  | trbAbs (a : Word)
  /-- ORA abs,X: `1D`; R344. -/
  | oraAbsX (a : Word)
  /-- ASL abs,X: `1E`; R351. -/
  | aslAbsX (a : Word)
  /-- BBR1 bp,rel: `1F`; R415. -/
  | bbr1 (nn : Byte) (d : Byte)
  /-- JSR abs: `20`; R423. -/
  | jsrAbs (a : Word)
  /-- AND (bp,X): `21`; R343. -/
  | andBpXInd (nn : Byte)
  /-- JSR (abs): `22`; R424. -/
  | jsrInd (a : Word)
  /-- JSR (abs,X): `23`; R425. -/
  | jsrIndX (a : Word)
  /-- BIT bp: `24`; R349. -/
  | bitBp (nn : Byte)
  /-- AND bp: `25`; R343. -/
  | andBp (nn : Byte)
  /-- ROL bp: `26`; R353. -/
  | rolBp (nn : Byte)
  /-- RMB2 bp: `27`; R374. -/
  | rmb2 (nn : Byte)
  /-- PLP: `28`; R311. -/
  | plp
  /-- AND #: `29`; R343. -/
  | andImm (v : Byte)
  /-- ROL A: `2A`; R353. -/
  | rolA
  /-- TYS: `2B`; R299. -/
  | tys
  /-- BIT abs: `2C`; R349. -/
  | bitAbs (a : Word)
  /-- AND abs: `2D`; R343. -/
  | andAbs (a : Word)
  /-- ROL abs: `2E`; R353. -/
  | rolAbs (a : Word)
  /-- BBR2 bp,rel: `2F`; R415. -/
  | bbr2 (nn : Byte) (d : Byte)
  /-- BMI rel: `30`; R402. -/
  | bmiRel (d : Byte)
  /-- AND (bp),Y: `31`; R343. -/
  | andBpIndY (nn : Byte)
  /-- AND (bp),Z: `32`; R343. -/
  | andBpIndZ (nn : Byte)
  /-- BMI relw: `33`; R402. -/
  | bmiRelW (d : Word)
  /-- BIT bp,X: `34`; R349. -/
  | bitBpX (nn : Byte)
  /-- AND bp,X: `35`; R343. -/
  | andBpX (nn : Byte)
  /-- ROL bp,X: `36`; R353. -/
  | rolBpX (nn : Byte)
  /-- RMB3 bp: `37`; R374. -/
  | rmb3 (nn : Byte)
  /-- SEC: `38`; R431. -/
  | sec
  /-- AND abs,Y: `39`; R343. -/
  | andAbsY (a : Word)
  /-- DEC A: `3A`; R366. -/
  | decA
  /-- DEZ: `3B`; R369. -/
  | dez
  /-- BIT abs,X: `3C`; R349. -/
  | bitAbsX (a : Word)
  /-- AND abs,X: `3D`; R343. -/
  | andAbsX (a : Word)
  /-- ROL abs,X: `3E`; R353. -/
  | rolAbsX (a : Word)
  /-- BBR3 bp,rel: `3F`; R415. -/
  | bbr3 (nn : Byte) (d : Byte)
  /-- RTI: `40`; R428. -/
  | rti
  /-- EOR (bp,X): `41`; R345. -/
  | eorBpXInd (nn : Byte)
  /-- NEG A: `42`; R262. -/
  | neg
  /-- ASR A: `43`; R355. -/
  | asrA
  /-- ASR bp: `44`; R355. -/
  | asrBp (nn : Byte)
  /-- EOR bp: `45`; R345. -/
  | eorBp (nn : Byte)
  /-- LSR bp: `46`; R352. -/
  | lsrBp (nn : Byte)
  /-- RMB4 bp: `47`; R374. -/
  | rmb4 (nn : Byte)
  /-- PHA: `48`; R301. -/
  | pha
  /-- EOR #: `49`; R345. -/
  | eorImm (v : Byte)
  /-- LSR A: `4A`; R352. -/
  | lsrA
  /-- TAZ: `4B`; R290. -/
  | taz
  /-- JMP abs: `4C`; R420. -/
  | jmpAbs (a : Word)
  /-- EOR abs: `4D`; R345. -/
  | eorAbs (a : Word)
  /-- LSR abs: `4E`; R352. -/
  | lsrAbs (a : Word)
  /-- BBR4 bp,rel: `4F`; R415. -/
  | bbr4 (nn : Byte) (d : Byte)
  /-- BVC rel: `50`; R403. -/
  | bvcRel (d : Byte)
  /-- EOR (bp),Y: `51`; R345. -/
  | eorBpIndY (nn : Byte)
  /-- EOR (bp),Z: `52`; R345. -/
  | eorBpIndZ (nn : Byte)
  /-- BVC relw: `53`; R403. -/
  | bvcRelW (d : Word)
  /-- ASR bp,X: `54`; R355. -/
  | asrBpX (nn : Byte)
  /-- EOR bp,X: `55`; R345. -/
  | eorBpX (nn : Byte)
  /-- LSR bp,X: `56`; R352. -/
  | lsrBpX (nn : Byte)
  /-- RMB5 bp: `57`; R374. -/
  | rmb5 (nn : Byte)
  /-- CLI: `58`; R432. -/
  | cli
  /-- EOR abs,Y: `59`; R345. -/
  | eorAbsY (a : Word)
  /-- PHY: `5A`; R303. -/
  | phy
  /-- TAB: `5B`; R296. -/
  | tab
  /-- MAP: `5C`; R260. -/
  | map
  /-- EOR abs,X: `5D`; R345. -/
  | eorAbsX (a : Word)
  /-- LSR abs,X: `5E`; R352. -/
  | lsrAbsX (a : Word)
  /-- BBR5 bp,rel: `5F`; R415. -/
  | bbr5 (nn : Byte) (d : Byte)
  /-- RTS: `60`; R426. -/
  | rts
  /-- ADC (bp,X): `61`; R340. -/
  | adcBpXInd (nn : Byte)
  /-- RTS #: `62`; R427. -/
  | rtsImm (n : Byte)
  /-- BSR relw: `63`; R410. -/
  | bsrRelW (d : Word)
  /-- STZ bp: `64`; R287. -/
  | stzBp (nn : Byte)
  /-- ADC bp: `65`; R340. -/
  | adcBp (nn : Byte)
  /-- ROR bp: `66`; R354. -/
  | rorBp (nn : Byte)
  /-- RMB6 bp: `67`; R374. -/
  | rmb6 (nn : Byte)
  /-- PLA: `68`; R306. -/
  | pla
  /-- ADC #: `69`; R340. -/
  | adcImm (v : Byte)
  /-- ROR A: `6A`; R354. -/
  | rorA
  /-- TZA: `6B`; R293. -/
  | tza
  /-- JMP (abs): `6C`; R421. -/
  | jmpInd (a : Word)
  /-- ADC abs: `6D`; R340. -/
  | adcAbs (a : Word)
  /-- ROR abs: `6E`; R354. -/
  | rorAbs (a : Word)
  /-- BBR6 bp,rel: `6F`; R415. -/
  | bbr6 (nn : Byte) (d : Byte)
  /-- BVS rel: `70`; R404. -/
  | bvsRel (d : Byte)
  /-- ADC (bp),Y: `71`; R340. -/
  | adcBpIndY (nn : Byte)
  /-- ADC (bp),Z: `72`; R340. -/
  | adcBpIndZ (nn : Byte)
  /-- BVS relw: `73`; R404. -/
  | bvsRelW (d : Word)
  /-- STZ bp,X: `74`; R287. -/
  | stzBpX (nn : Byte)
  /-- ADC bp,X: `75`; R340. -/
  | adcBpX (nn : Byte)
  /-- ROR bp,X: `76`; R354. -/
  | rorBpX (nn : Byte)
  /-- RMB7 bp: `77`; R374. -/
  | rmb7 (nn : Byte)
  /-- SEI: `78`; R433. -/
  | sei
  /-- ADC abs,Y: `79`; R340. -/
  | adcAbsY (a : Word)
  /-- PLY: `7A`; R308. -/
  | ply
  /-- TBA: `7B`; R297. -/
  | tba
  /-- JMP (abs,X): `7C`; R422. -/
  | jmpIndX (a : Word)
  /-- ADC abs,X: `7D`; R340. -/
  | adcAbsX (a : Word)
  /-- ROR abs,X: `7E`; R354. -/
  | rorAbsX (a : Word)
  /-- BBR7 bp,rel: `7F`; R415. -/
  | bbr7 (nn : Byte) (d : Byte)
  /-- BRA rel: `80`; R409. -/
  | braRel (d : Byte)
  /-- STA (bp,X): `81`; R284. -/
  | staBpXInd (nn : Byte)
  /-- STA (d,SP),Y: `82`; R284. -/
  | staSpIndY (nn : Byte)
  /-- BRA relw: `83`; R409. -/
  | braRelW (d : Word)
  /-- STY bp: `84`; R286. -/
  | styBp (nn : Byte)
  /-- STA bp: `85`; R284. -/
  | staBp (nn : Byte)
  /-- STX bp: `86`; R285. -/
  | stxBp (nn : Byte)
  /-- SMB0 bp: `87`; R375. -/
  | smb0 (nn : Byte)
  /-- DEY: `88`; R368. -/
  | dey
  /-- BIT #: `89`; R349. -/
  | bitImm (v : Byte)
  /-- TXA: `8A`; R291. -/
  | txa
  /-- STY abs,X: `8B`; R286. -/
  | styAbsX (a : Word)
  /-- STY abs: `8C`; R286. -/
  | styAbs (a : Word)
  /-- STA abs: `8D`; R284. -/
  | staAbs (a : Word)
  /-- STX abs: `8E`; R285. -/
  | stxAbs (a : Word)
  /-- BBS0 bp,rel: `8F`; R415. -/
  | bbs0 (nn : Byte) (d : Byte)
  /-- BCC rel: `90`; R405. -/
  | bccRel (d : Byte)
  /-- STA (bp),Y: `91`; R284. -/
  | staBpIndY (nn : Byte)
  /-- STA (bp),Z: `92`; R284. -/
  | staBpIndZ (nn : Byte)
  /-- BCC relw: `93`; R405. -/
  | bccRelW (d : Word)
  /-- STY bp,X: `94`; R286. -/
  | styBpX (nn : Byte)
  /-- STA bp,X: `95`; R284. -/
  | staBpX (nn : Byte)
  /-- STX bp,Y: `96`; R285. -/
  | stxBpY (nn : Byte)
  /-- SMB1 bp: `97`; R375. -/
  | smb1 (nn : Byte)
  /-- TYA: `98`; R292. -/
  | tya
  /-- STA abs,Y: `99`; R284. -/
  | staAbsY (a : Word)
  /-- TXS: `9A`; R298. -/
  | txs
  /-- STX abs,Y: `9B`; R285. -/
  | stxAbsY (a : Word)
  /-- STZ abs: `9C`; R287. -/
  | stzAbs (a : Word)
  /-- STA abs,X: `9D`; R284. -/
  | staAbsX (a : Word)
  /-- STZ abs,X: `9E`; R287. -/
  | stzAbsX (a : Word)
  /-- BBS1 bp,rel: `9F`; R415. -/
  | bbs1 (nn : Byte) (d : Byte)
  /-- LDY #: `A0`; R282. -/
  | ldyImm (v : Byte)
  /-- LDA (bp,X): `A1`; R280. -/
  | ldaBpXInd (nn : Byte)
  /-- LDX #: `A2`; R281. -/
  | ldxImm (v : Byte)
  /-- LDZ #: `A3`; R283. -/
  | ldzImm (v : Byte)
  /-- LDY bp: `A4`; R282. -/
  | ldyBp (nn : Byte)
  /-- LDA bp: `A5`; R280. -/
  | ldaBp (nn : Byte)
  /-- LDX bp: `A6`; R281. -/
  | ldxBp (nn : Byte)
  /-- SMB2 bp: `A7`; R375. -/
  | smb2 (nn : Byte)
  /-- TAY: `A8`; R289. -/
  | tay
  /-- LDA #: `A9`; R280. -/
  | ldaImm (v : Byte)
  /-- TAX: `AA`; R288. -/
  | tax
  /-- LDZ abs: `AB`; R283. -/
  | ldzAbs (a : Word)
  /-- LDY abs: `AC`; R282. -/
  | ldyAbs (a : Word)
  /-- LDA abs: `AD`; R280. -/
  | ldaAbs (a : Word)
  /-- LDX abs: `AE`; R281. -/
  | ldxAbs (a : Word)
  /-- BBS2 bp,rel: `AF`; R415. -/
  | bbs2 (nn : Byte) (d : Byte)
  /-- BCS rel: `B0`; R406. -/
  | bcsRel (d : Byte)
  /-- LDA (bp),Y: `B1`; R280. -/
  | ldaBpIndY (nn : Byte)
  /-- LDA (bp),Z: `B2`; R280. -/
  | ldaBpIndZ (nn : Byte)
  /-- BCS relw: `B3`; R406. -/
  | bcsRelW (d : Word)
  /-- LDY bp,X: `B4`; R282. -/
  | ldyBpX (nn : Byte)
  /-- LDA bp,X: `B5`; R280. -/
  | ldaBpX (nn : Byte)
  /-- LDX bp,Y: `B6`; R281. -/
  | ldxBpY (nn : Byte)
  /-- SMB3 bp: `B7`; R375. -/
  | smb3 (nn : Byte)
  /-- CLV: `B8`; R436. -/
  | clv
  /-- LDA abs,Y: `B9`; R280. -/
  | ldaAbsY (a : Word)
  /-- TSX: `BA`; R294. -/
  | tsx
  /-- LDZ abs,X: `BB`; R283. -/
  | ldzAbsX (a : Word)
  /-- LDY abs,X: `BC`; R282. -/
  | ldyAbsX (a : Word)
  /-- LDA abs,X: `BD`; R280. -/
  | ldaAbsX (a : Word)
  /-- LDX abs,Y: `BE`; R281. -/
  | ldxAbsY (a : Word)
  /-- BBS3 bp,rel: `BF`; R415. -/
  | bbs3 (nn : Byte) (d : Byte)
  /-- CPY #: `C0`; R347. -/
  | cpyImm (v : Byte)
  /-- CMP (bp,X): `C1`; R342. -/
  | cmpBpXInd (nn : Byte)
  /-- CPZ #: `C2`; R348. -/
  | cpzImm (v : Byte)
  /-- DEW bp: `C3`; R371. -/
  | dewBp (nn : Byte)
  /-- CPY bp: `C4`; R347. -/
  | cpyBp (nn : Byte)
  /-- CMP bp: `C5`; R342. -/
  | cmpBp (nn : Byte)
  /-- DEC bp: `C6`; R362. -/
  | decBp (nn : Byte)
  /-- SMB4 bp: `C7`; R375. -/
  | smb4 (nn : Byte)
  /-- INY: `C8`; R364. -/
  | iny
  /-- CMP #: `C9`; R342. -/
  | cmpImm (v : Byte)
  /-- DEX: `CA`; R367. -/
  | dex
  /-- ASW abs: `CB`; R356. -/
  | aswAbs (a : Word)
  /-- CPY abs: `CC`; R347. -/
  | cpyAbs (a : Word)
  /-- CMP abs: `CD`; R342. -/
  | cmpAbs (a : Word)
  /-- DEC abs: `CE`; R362. -/
  | decAbs (a : Word)
  /-- BBS4 bp,rel: `CF`; R415. -/
  | bbs4 (nn : Byte) (d : Byte)
  /-- BNE rel: `D0`; R407. -/
  | bneRel (d : Byte)
  /-- CMP (bp),Y: `D1`; R342. -/
  | cmpBpIndY (nn : Byte)
  /-- CMP (bp),Z: `D2`; R342. -/
  | cmpBpIndZ (nn : Byte)
  /-- BNE relw: `D3`; R407. -/
  | bneRelW (d : Word)
  /-- CPZ bp: `D4`; R348. -/
  | cpzBp (nn : Byte)
  /-- CMP bp,X: `D5`; R342. -/
  | cmpBpX (nn : Byte)
  /-- DEC bp,X: `D6`; R362. -/
  | decBpX (nn : Byte)
  /-- SMB5 bp: `D7`; R375. -/
  | smb5 (nn : Byte)
  /-- CLD: `D8`; R434. -/
  | cld
  /-- CMP abs,Y: `D9`; R342. -/
  | cmpAbsY (a : Word)
  /-- PHX: `DA`; R302. -/
  | phx
  /-- PHZ: `DB`; R304. -/
  | phz
  /-- CPZ abs: `DC`; R348. -/
  | cpzAbs (a : Word)
  /-- CMP abs,X: `DD`; R342. -/
  | cmpAbsX (a : Word)
  /-- DEC abs,X: `DE`; R362. -/
  | decAbsX (a : Word)
  /-- BBS5 bp,rel: `DF`; R415. -/
  | bbs5 (nn : Byte) (d : Byte)
  /-- CPX #: `E0`; R346. -/
  | cpxImm (v : Byte)
  /-- SBC (bp,X): `E1`; R341. -/
  | sbcBpXInd (nn : Byte)
  /-- LDA (d,SP),Y: `E2`; R280. -/
  | ldaSpIndY (nn : Byte)
  /-- INW bp: `E3`; R370. -/
  | inwBp (nn : Byte)
  /-- CPX bp: `E4`; R346. -/
  | cpxBp (nn : Byte)
  /-- SBC bp: `E5`; R341. -/
  | sbcBp (nn : Byte)
  /-- INC bp: `E6`; R360. -/
  | incBp (nn : Byte)
  /-- SMB6 bp: `E7`; R375. -/
  | smb6 (nn : Byte)
  /-- INX: `E8`; R363. -/
  | inx
  /-- SBC #: `E9`; R341. -/
  | sbcImm (v : Byte)
  /-- EOM: `EA`; R261. -/
  | eom
  /-- ROW abs: `EB`; R357. -/
  | rowAbs (a : Word)
  /-- CPX abs: `EC`; R346. -/
  | cpxAbs (a : Word)
  /-- SBC abs: `ED`; R341. -/
  | sbcAbs (a : Word)
  /-- INC abs: `EE`; R360. -/
  | incAbs (a : Word)
  /-- BBS6 bp,rel: `EF`; R415. -/
  | bbs6 (nn : Byte) (d : Byte)
  /-- BEQ rel: `F0`; R408. -/
  | beqRel (d : Byte)
  /-- SBC (bp),Y: `F1`; R341. -/
  | sbcBpIndY (nn : Byte)
  /-- SBC (bp),Z: `F2`; R341. -/
  | sbcBpIndZ (nn : Byte)
  /-- BEQ relw: `F3`; R408. -/
  | beqRelW (d : Word)
  /-- PHW #w: `F4`; R309. -/
  | phwImmW (w : Word)
  /-- SBC bp,X: `F5`; R341. -/
  | sbcBpX (nn : Byte)
  /-- INC bp,X: `F6`; R360. -/
  | incBpX (nn : Byte)
  /-- SMB7 bp: `F7`; R375. -/
  | smb7 (nn : Byte)
  /-- SED: `F8`; R435. -/
  | sed
  /-- SBC abs,Y: `F9`; R341. -/
  | sbcAbsY (a : Word)
  /-- PLX: `FA`; R307. -/
  | plx
  /-- PLZ: `FB`; R310. -/
  | plz
  /-- PHW abs: `FC`; R309. -/
  | phwAbs (a : Word)
  /-- SBC abs,X: `FD`; R341. -/
  | sbcAbsX (a : Word)
  /-- INC abs,X: `FE`; R360. -/
  | incAbsX (a : Word)
  /-- BBS7 bp,rel: `FF`; R415. -/
  | bbs7 (nn : Byte) (d : Byte)
  /-- LDQ bp: `42 42 A5`; R190. -/
  | ldqBp (nn : Byte)
  /-- LDQ abs: `42 42 AD`; R190. -/
  | ldqAbs (a : Word)
  /-- LDQ (bp),Z: `42 42 B2`; R190. -/
  | ldqBpIndZ (nn : Byte)
  /-- STQ bp: `42 42 85`; R191. -/
  | stqBp (nn : Byte)
  /-- STQ abs: `42 42 8D`; R191. -/
  | stqAbs (a : Word)
  /-- STQ (bp): `42 42 92`; R191. -/
  | stqBpInd (nn : Byte)
  /-- ADCQ bp: `42 42 65`; R200. -/
  | adcqBp (nn : Byte)
  /-- ADCQ abs: `42 42 6D`; R200. -/
  | adcqAbs (a : Word)
  /-- ADCQ (bp): `42 42 72`; R200. -/
  | adcqBpInd (nn : Byte)
  /-- SBCQ bp: `42 42 E5`; R201. -/
  | sbcqBp (nn : Byte)
  /-- SBCQ abs: `42 42 ED`; R201. -/
  | sbcqAbs (a : Word)
  /-- SBCQ (bp): `42 42 F2`; R201. -/
  | sbcqBpInd (nn : Byte)
  /-- CMPQ bp: `42 42 C5`; R202. -/
  | cmpqBp (nn : Byte)
  /-- CMPQ abs: `42 42 CD`; R202. -/
  | cmpqAbs (a : Word)
  /-- CMPQ (bp): `42 42 D2`; R202. -/
  | cmpqBpInd (nn : Byte)
  /-- ANDQ bp: `42 42 25`; R203. -/
  | andqBp (nn : Byte)
  /-- ANDQ abs: `42 42 2D`; R203. -/
  | andqAbs (a : Word)
  /-- ANDQ (bp): `42 42 32`; R203. -/
  | andqBpInd (nn : Byte)
  /-- ORQ bp: `42 42 05`; R204. -/
  | orqBp (nn : Byte)
  /-- ORQ abs: `42 42 0D`; R204. -/
  | orqAbs (a : Word)
  /-- ORQ (bp): `42 42 12`; R204. -/
  | orqBpInd (nn : Byte)
  /-- EORQ bp: `42 42 45`; R205. -/
  | eorqBp (nn : Byte)
  /-- EORQ abs: `42 42 4D`; R205. -/
  | eorqAbs (a : Word)
  /-- EORQ (bp): `42 42 52`; R205. -/
  | eorqBpInd (nn : Byte)
  /-- BITQ bp: `42 42 24`; R206. -/
  | bitqBp (nn : Byte)
  /-- BITQ abs: `42 42 2C`; R206. -/
  | bitqAbs (a : Word)
  /-- ASLQ Q: `42 42 0A`; R220. -/
  | aslqQ
  /-- ASLQ bp: `42 42 06`; R220. -/
  | aslqBp (nn : Byte)
  /-- ASLQ bp,X: `42 42 16`; R220. -/
  | aslqBpX (nn : Byte)
  /-- ASLQ abs: `42 42 0E`; R220. -/
  | aslqAbs (a : Word)
  /-- ASLQ abs,X: `42 42 1E`; R220. -/
  | aslqAbsX (a : Word)
  /-- ASRQ Q: `42 42 43`; R221. -/
  | asrqQ
  /-- ASRQ bp: `42 42 44`; R221. -/
  | asrqBp (nn : Byte)
  /-- ASRQ bp,X: `42 42 54`; R221. -/
  | asrqBpX (nn : Byte)
  /-- LSRQ Q: `42 42 4A`; R222. -/
  | lsrqQ
  /-- LSRQ bp: `42 42 46`; R222. -/
  | lsrqBp (nn : Byte)
  /-- LSRQ bp,X: `42 42 56`; R222. -/
  | lsrqBpX (nn : Byte)
  /-- LSRQ abs: `42 42 4E`; R222. -/
  | lsrqAbs (a : Word)
  /-- LSRQ abs,X: `42 42 5E`; R222. -/
  | lsrqAbsX (a : Word)
  /-- ROLQ Q: `42 42 2A`; R223. -/
  | rolqQ
  /-- ROLQ bp: `42 42 26`; R223. -/
  | rolqBp (nn : Byte)
  /-- ROLQ bp,X: `42 42 36`; R223. -/
  | rolqBpX (nn : Byte)
  /-- ROLQ abs: `42 42 2E`; R223. -/
  | rolqAbs (a : Word)
  /-- ROLQ abs,X: `42 42 3E`; R223. -/
  | rolqAbsX (a : Word)
  /-- RORQ Q: `42 42 6A`; R224. -/
  | rorqQ
  /-- RORQ bp: `42 42 66`; R224. -/
  | rorqBp (nn : Byte)
  /-- RORQ bp,X: `42 42 76`; R224. -/
  | rorqBpX (nn : Byte)
  /-- RORQ abs: `42 42 6E`; R224. -/
  | rorqAbs (a : Word)
  /-- RORQ abs,X: `42 42 7E`; R224. -/
  | rorqAbsX (a : Word)
  /-- INQ Q: `42 42 1A`; R225. -/
  | inqQ
  /-- INQ bp: `42 42 E6`; R225. -/
  | inqBp (nn : Byte)
  /-- INQ bp,X: `42 42 F6`; R225. -/
  | inqBpX (nn : Byte)
  /-- INQ abs: `42 42 EE`; R225. -/
  | inqAbs (a : Word)
  /-- INQ abs,X: `42 42 FE`; R225. -/
  | inqAbsX (a : Word)
  /-- DEQ Q: `42 42 3A`; R226. -/
  | deqQ
  /-- DEQ bp: `42 42 C6`; R226. -/
  | deqBp (nn : Byte)
  /-- DEQ bp,X: `42 42 D6`; R226. -/
  | deqBpX (nn : Byte)
  /-- DEQ abs: `42 42 CE`; R226. -/
  | deqAbs (a : Word)
  /-- DEQ abs,X: `42 42 DE`; R226. -/
  | deqAbsX (a : Word)
  /-- ORA [bp],Z: `EA 12`; R246. -/
  | oraFarZ (nn : Byte)
  /-- AND [bp],Z: `EA 32`; R245. -/
  | andFarZ (nn : Byte)
  /-- EOR [bp],Z: `EA 52`; R247. -/
  | eorFarZ (nn : Byte)
  /-- ADC [bp],Z: `EA 72`; R242. -/
  | adcFarZ (nn : Byte)
  /-- STA [bp],Z: `EA 92`; R241. -/
  | staFarZ (nn : Byte)
  /-- LDA [bp],Z: `EA B2`; R240. -/
  | ldaFarZ (nn : Byte)
  /-- CMP [bp],Z: `EA D2`; R244. -/
  | cmpFarZ (nn : Byte)
  /-- SBC [bp],Z: `EA F2`; R243. -/
  | sbcFarZ (nn : Byte)
  /-- ORQ [bp]: `42 42 EA 12`; R204. -/
  | orqFar (nn : Byte)
  /-- ANDQ [bp]: `42 42 EA 32`; R203. -/
  | andqFar (nn : Byte)
  /-- EORQ [bp]: `42 42 EA 52`; R205. -/
  | eorqFar (nn : Byte)
  /-- ADCQ [bp]: `42 42 EA 72`; R200. -/
  | adcqFar (nn : Byte)
  /-- STQ [bp]: `42 42 EA 92`; R191. -/
  | stqFar (nn : Byte)
  /-- LDQ [bp],Z: `42 42 EA B2`; R190. -/
  | ldqFarZ (nn : Byte)
  /-- CMPQ [bp]: `42 42 EA D2`; R202. -/
  | cmpqFar (nn : Byte)
  /-- SBCQ [bp]: `42 42 EA F2`; R201. -/
  | sbcqFar (nn : Byte)
  /-- RESQ bp,X: `42 42 15`; R248. -/
  | resq15 (nn : Byte)
  /-- RESQ bp,X: `42 42 34`; R248. -/
  | resq34 (nn : Byte)
  /-- RESQ bp,X: `42 42 35`; R248. -/
  | resq35 (nn : Byte)
  /-- RESQ bp,X: `42 42 55`; R248. -/
  | resq55 (nn : Byte)
  /-- RESQ bp,X: `42 42 75`; R248. -/
  | resq75 (nn : Byte)
  /-- RESQ abs,X: `42 42 1D`; R248. -/
  | resq1D (a : Word)
  /-- RESQ abs,X: `42 42 3C`; R248. -/
  | resq3C (a : Word)
  /-- RESQ abs,X: `42 42 3D`; R248. -/
  | resq3D (a : Word)
  /-- RESQ abs,X: `42 42 5D`; R248. -/
  | resq5D (a : Word)
  /-- RESQ abs,X: `42 42 7D`; R248. -/
  | resq7D (a : Word)
  /-- RESQ abs,Y: `42 42 19`; R248. -/
  | resq19 (a : Word)
  /-- RESQ abs,Y: `42 42 39`; R248. -/
  | resq39 (a : Word)
  /-- RESQ abs,Y: `42 42 59`; R248. -/
  | resq59 (a : Word)
  /-- RESQ abs,Y: `42 42 79`; R248. -/
  | resq79 (a : Word)
  /-- RESQ (bp,X): `42 42 01`; R248. -/
  | resq01 (nn : Byte)
  /-- RESQ (bp,X): `42 42 21`; R248. -/
  | resq21 (nn : Byte)
  /-- RESQ (bp,X): `42 42 41`; R248. -/
  | resq41 (nn : Byte)
  /-- RESQ (bp,X): `42 42 61`; R248. -/
  | resq61 (nn : Byte)
  /-- RESQ (bp),Y: `42 42 11`; R248. -/
  | resq11 (nn : Byte)
  /-- RESQ (bp),Y: `42 42 31`; R248. -/
  | resq31 (nn : Byte)
  /-- RESQ (bp),Y: `42 42 51`; R248. -/
  | resq51 (nn : Byte)
  /-- RESQ (bp),Y: `42 42 71`; R248. -/
  | resq71 (nn : Byte)
  /-- RSVQ bp,X: `42 42 95`; R249. -/
  | rsvq95 (nn : Byte)
  /-- RSVQ bp,X: `42 42 D5`; R249. -/
  | rsvqD5 (nn : Byte)
  /-- RSVQ bp,X: `42 42 F5`; R249. -/
  | rsvqF5 (nn : Byte)
  /-- RSVQ abs,X: `42 42 9D`; R249. -/
  | rsvq9D (a : Word)
  /-- RSVQ abs,X: `42 42 DD`; R249. -/
  | rsvqDD (a : Word)
  /-- RSVQ abs,X: `42 42 FD`; R249. -/
  | rsvqFD (a : Word)
  /-- RSVQ abs,Y: `42 42 99`; R249. -/
  | rsvq99 (a : Word)
  /-- RSVQ abs,Y: `42 42 D9`; R249. -/
  | rsvqD9 (a : Word)
  /-- RSVQ abs,Y: `42 42 F9`; R249. -/
  | rsvqF9 (a : Word)
  /-- RSVQ (bp,X): `42 42 81`; R249. -/
  | rsvq81 (nn : Byte)
  /-- RSVQ (bp,X): `42 42 A1`; R249. -/
  | rsvqA1 (nn : Byte)
  /-- RSVQ (bp,X): `42 42 C1`; R249. -/
  | rsvqC1 (nn : Byte)
  /-- RSVQ (bp,X): `42 42 E1`; R249. -/
  | rsvqE1 (nn : Byte)
  /-- RSVQ (bp),Y: `42 42 91`; R249. -/
  | rsvq91 (nn : Byte)
  /-- RSVQ (bp),Y: `42 42 D1`; R249. -/
  | rsvqD1 (nn : Byte)
  /-- RSVQ (bp),Y: `42 42 F1`; R249. -/
  | rsvqF1 (nn : Byte)
  /-- RSVQ (d,SP),Y: `42 42 82`; R249. -/
  | rsvq82 (nn : Byte)
  deriving DecidableEq, Repr

end Sys2Proof
end

