-- ==== Sys2Proof/WellFormed.lean ====
section
/-! DEFINITION. Well-formed instructions. Every operand of `Instr` has exactly the width of its encoding, so an
instruction is well-formed by itself; before the bytes that follow it two are not: their one byte would be read as a
prefix byte (`30_encoding.md` R114, R116, R262). -/

namespace Sys2Proof

/-- The opcode of NEG, and half of the Q prefix (R113, R262). -/
def negByte : Byte := 0x42#8

/-- The opcode of EOM, and the 32-bit pointer prefix (R113, R261). -/
def eomByte : Byte := 0xEA#8

/-- `FAR`: the opcodes that have a 32-bit pointer form (R116). -/
def farOpcodes : List Byte := [0x12#8, 0x32#8, 0x52#8, 0x72#8, 0x92#8, 0xB2#8, 0xD2#8, 0xF2#8]

/-- Whether an instruction, before `rest`, is read as itself: NEG not before `42` (R114, R262), EOM not before a FAR
opcode (R116, R261: "the two-instruction sequence `EOM` ; `LDA ($nn),Z` cannot be encoded"). -/
def Instr.wf (i : Instr) (rest : List Byte) : Bool :=
  match i, rest with
  | .neg, b :: _ => b != negByte
  | .eom, b :: _ => !farOpcodes.contains b
  | _, _ => true

end Sys2Proof
end

