-- ==== Sys2Proof/Decode.lean ====
section
/-! DEFINITION. Decoding and encoding (`30_encoding.md`). The tables are written from the spec's own (R115 to R118,
R120), the encoder from the encodings of each instruction's rule. Lean's compiler has no tags for more than 244
constructors with operands, so it makes no code for what builds an `Instr`; the kernel evaluates all of it. -/

noncomputable section

namespace Sys2Proof

/-- The operand bytes after an opcode byte (R111, R112): none, one byte, a 16-bit word low byte first, or a base-page
byte and a displacement; with the instruction they make. -/
inductive Cell where
  | f0 (i : Instr)
  | f1 (i : Byte → Instr)
  | f2 (i : Word → Instr)
  | f2br (i : Byte → Byte → Instr)

/-- Why bytes are not an instruction. -/
inductive DecodeError where
  /-- The bytes end inside an instruction. -/
  | truncated
  /-- `42 42` before an opcode that is in neither QSET nor QRES (R121). -/
  | unlistedQuad (op : Byte)
  /-- `42 42 EA` before an opcode that is not in QFAR (R121). -/
  | unlistedQuadFar (op : Byte)
  deriving DecidableEq, Repr

/-- An instruction and the bytes after it. -/
abbrev Decoded := Except DecodeError (Instr × List Byte)

/-- Row 0x of the base opcode map (R118). -/
def baseRow0 : List Cell :=
  [.f1 .brk, .f1 .oraBpXInd, .f0 .cle, .f0 .see, .f1 .tsbBp, .f1 .oraBp, .f1 .aslBp, .f1 .rmb0,
   .f0 .php, .f1 .oraImm, .f0 .aslA, .f0 .tsy, .f2 .tsbAbs, .f2 .oraAbs, .f2 .aslAbs, .f2br .bbr0]

/-- Row 1x of the base opcode map (R118). -/
def baseRow1 : List Cell :=
  [.f1 .bplRel, .f1 .oraBpIndY, .f1 .oraBpIndZ, .f2 .bplRelW, .f1 .trbBp, .f1 .oraBpX, .f1 .aslBpX, .f1 .rmb1,
   .f0 .clc, .f2 .oraAbsY, .f0 .incA, .f0 .inz, .f2 .trbAbs, .f2 .oraAbsX, .f2 .aslAbsX, .f2br .bbr1]

/-- Row 2x of the base opcode map (R118). -/
def baseRow2 : List Cell :=
  [.f2 .jsrAbs, .f1 .andBpXInd, .f2 .jsrInd, .f2 .jsrIndX, .f1 .bitBp, .f1 .andBp, .f1 .rolBp, .f1 .rmb2,
   .f0 .plp, .f1 .andImm, .f0 .rolA, .f0 .tys, .f2 .bitAbs, .f2 .andAbs, .f2 .rolAbs, .f2br .bbr2]

/-- Row 3x of the base opcode map (R118). -/
def baseRow3 : List Cell :=
  [.f1 .bmiRel, .f1 .andBpIndY, .f1 .andBpIndZ, .f2 .bmiRelW, .f1 .bitBpX, .f1 .andBpX, .f1 .rolBpX, .f1 .rmb3,
   .f0 .sec, .f2 .andAbsY, .f0 .decA, .f0 .dez, .f2 .bitAbsX, .f2 .andAbsX, .f2 .rolAbsX, .f2br .bbr3]

/-- Row 4x of the base opcode map (R118). -/
def baseRow4 : List Cell :=
  [.f0 .rti, .f1 .eorBpXInd, .f0 .neg, .f0 .asrA, .f1 .asrBp, .f1 .eorBp, .f1 .lsrBp, .f1 .rmb4,
   .f0 .pha, .f1 .eorImm, .f0 .lsrA, .f0 .taz, .f2 .jmpAbs, .f2 .eorAbs, .f2 .lsrAbs, .f2br .bbr4]

/-- Row 5x of the base opcode map (R118). -/
def baseRow5 : List Cell :=
  [.f1 .bvcRel, .f1 .eorBpIndY, .f1 .eorBpIndZ, .f2 .bvcRelW, .f1 .asrBpX, .f1 .eorBpX, .f1 .lsrBpX, .f1 .rmb5,
   .f0 .cli, .f2 .eorAbsY, .f0 .phy, .f0 .tab, .f0 .map, .f2 .eorAbsX, .f2 .lsrAbsX, .f2br .bbr5]

/-- Row 6x of the base opcode map (R118). -/
def baseRow6 : List Cell :=
  [.f0 .rts, .f1 .adcBpXInd, .f1 .rtsImm, .f2 .bsrRelW, .f1 .stzBp, .f1 .adcBp, .f1 .rorBp, .f1 .rmb6,
   .f0 .pla, .f1 .adcImm, .f0 .rorA, .f0 .tza, .f2 .jmpInd, .f2 .adcAbs, .f2 .rorAbs, .f2br .bbr6]

/-- Row 7x of the base opcode map (R118). -/
def baseRow7 : List Cell :=
  [.f1 .bvsRel, .f1 .adcBpIndY, .f1 .adcBpIndZ, .f2 .bvsRelW, .f1 .stzBpX, .f1 .adcBpX, .f1 .rorBpX, .f1 .rmb7,
   .f0 .sei, .f2 .adcAbsY, .f0 .ply, .f0 .tba, .f2 .jmpIndX, .f2 .adcAbsX, .f2 .rorAbsX, .f2br .bbr7]

/-- Row 8x of the base opcode map (R118). -/
def baseRow8 : List Cell :=
  [.f1 .braRel, .f1 .staBpXInd, .f1 .staSpIndY, .f2 .braRelW, .f1 .styBp, .f1 .staBp, .f1 .stxBp, .f1 .smb0,
   .f0 .dey, .f1 .bitImm, .f0 .txa, .f2 .styAbsX, .f2 .styAbs, .f2 .staAbs, .f2 .stxAbs, .f2br .bbs0]

/-- Row 9x of the base opcode map (R118). -/
def baseRow9 : List Cell :=
  [.f1 .bccRel, .f1 .staBpIndY, .f1 .staBpIndZ, .f2 .bccRelW, .f1 .styBpX, .f1 .staBpX, .f1 .stxBpY, .f1 .smb1,
   .f0 .tya, .f2 .staAbsY, .f0 .txs, .f2 .stxAbsY, .f2 .stzAbs, .f2 .staAbsX, .f2 .stzAbsX, .f2br .bbs1]

/-- Row Ax of the base opcode map (R118). -/
def baseRowA : List Cell :=
  [.f1 .ldyImm, .f1 .ldaBpXInd, .f1 .ldxImm, .f1 .ldzImm, .f1 .ldyBp, .f1 .ldaBp, .f1 .ldxBp, .f1 .smb2,
   .f0 .tay, .f1 .ldaImm, .f0 .tax, .f2 .ldzAbs, .f2 .ldyAbs, .f2 .ldaAbs, .f2 .ldxAbs, .f2br .bbs2]

/-- Row Bx of the base opcode map (R118). -/
def baseRowB : List Cell :=
  [.f1 .bcsRel, .f1 .ldaBpIndY, .f1 .ldaBpIndZ, .f2 .bcsRelW, .f1 .ldyBpX, .f1 .ldaBpX, .f1 .ldxBpY, .f1 .smb3,
   .f0 .clv, .f2 .ldaAbsY, .f0 .tsx, .f2 .ldzAbsX, .f2 .ldyAbsX, .f2 .ldaAbsX, .f2 .ldxAbsY, .f2br .bbs3]

/-- Row Cx of the base opcode map (R118). -/
def baseRowC : List Cell :=
  [.f1 .cpyImm, .f1 .cmpBpXInd, .f1 .cpzImm, .f1 .dewBp, .f1 .cpyBp, .f1 .cmpBp, .f1 .decBp, .f1 .smb4,
   .f0 .iny, .f1 .cmpImm, .f0 .dex, .f2 .aswAbs, .f2 .cpyAbs, .f2 .cmpAbs, .f2 .decAbs, .f2br .bbs4]

/-- Row Dx of the base opcode map (R118). -/
def baseRowD : List Cell :=
  [.f1 .bneRel, .f1 .cmpBpIndY, .f1 .cmpBpIndZ, .f2 .bneRelW, .f1 .cpzBp, .f1 .cmpBpX, .f1 .decBpX, .f1 .smb5,
   .f0 .cld, .f2 .cmpAbsY, .f0 .phx, .f0 .phz, .f2 .cpzAbs, .f2 .cmpAbsX, .f2 .decAbsX, .f2br .bbs5]

/-- Row Ex of the base opcode map (R118). -/
def baseRowE : List Cell :=
  [.f1 .cpxImm, .f1 .sbcBpXInd, .f1 .ldaSpIndY, .f1 .inwBp, .f1 .cpxBp, .f1 .sbcBp, .f1 .incBp, .f1 .smb6,
   .f0 .inx, .f1 .sbcImm, .f0 .eom, .f2 .rowAbs, .f2 .cpxAbs, .f2 .sbcAbs, .f2 .incAbs, .f2br .bbs6]

/-- Row Fx of the base opcode map (R118). -/
def baseRowF : List Cell :=
  [.f1 .beqRel, .f1 .sbcBpIndY, .f1 .sbcBpIndZ, .f2 .beqRelW, .f2 .phwImmW, .f1 .sbcBpX, .f1 .incBpX, .f1 .smb7,
   .f0 .sed, .f2 .sbcAbsY, .f0 .plx, .f0 .plz, .f2 .phwAbs, .f2 .sbcAbsX, .f2 .incAbsX, .f2br .bbs7]

/-- The base opcode map: 16 rows of 16 (R118). -/
def baseMap : List Cell :=
  baseRow0 ++ baseRow1 ++ baseRow2 ++ baseRow3 ++ baseRow4 ++ baseRow5 ++ baseRow6 ++ baseRow7 ++
    baseRow8 ++ baseRow9 ++ baseRowA ++ baseRowB ++ baseRowC ++ baseRowD ++ baseRowE ++ baseRowF

/-- QSET: the opcodes after `42 42` (R115). -/
def quadMap : List (Byte × Cell) :=
  [(0xA5#8, .f1 .ldqBp), (0xAD#8, .f2 .ldqAbs), (0xB2#8, .f1 .ldqBpIndZ), (0x85#8, .f1 .stqBp),
   (0x8D#8, .f2 .stqAbs), (0x92#8, .f1 .stqBpInd), (0x65#8, .f1 .adcqBp), (0x6D#8, .f2 .adcqAbs),
   (0x72#8, .f1 .adcqBpInd), (0xE5#8, .f1 .sbcqBp), (0xED#8, .f2 .sbcqAbs), (0xF2#8, .f1 .sbcqBpInd),
   (0xC5#8, .f1 .cmpqBp), (0xCD#8, .f2 .cmpqAbs), (0xD2#8, .f1 .cmpqBpInd), (0x25#8, .f1 .andqBp),
   (0x2D#8, .f2 .andqAbs), (0x32#8, .f1 .andqBpInd), (0x05#8, .f1 .orqBp), (0x0D#8, .f2 .orqAbs),
   (0x12#8, .f1 .orqBpInd), (0x45#8, .f1 .eorqBp), (0x4D#8, .f2 .eorqAbs), (0x52#8, .f1 .eorqBpInd),
   (0x24#8, .f1 .bitqBp), (0x2C#8, .f2 .bitqAbs), (0x0A#8, .f0 .aslqQ), (0x06#8, .f1 .aslqBp),
   (0x16#8, .f1 .aslqBpX), (0x0E#8, .f2 .aslqAbs), (0x1E#8, .f2 .aslqAbsX), (0x43#8, .f0 .asrqQ),
   (0x44#8, .f1 .asrqBp), (0x54#8, .f1 .asrqBpX), (0x4A#8, .f0 .lsrqQ), (0x46#8, .f1 .lsrqBp),
   (0x56#8, .f1 .lsrqBpX), (0x4E#8, .f2 .lsrqAbs), (0x5E#8, .f2 .lsrqAbsX), (0x2A#8, .f0 .rolqQ),
   (0x26#8, .f1 .rolqBp), (0x36#8, .f1 .rolqBpX), (0x2E#8, .f2 .rolqAbs), (0x3E#8, .f2 .rolqAbsX),
   (0x6A#8, .f0 .rorqQ), (0x66#8, .f1 .rorqBp), (0x76#8, .f1 .rorqBpX), (0x6E#8, .f2 .rorqAbs),
   (0x7E#8, .f2 .rorqAbsX), (0x1A#8, .f0 .inqQ), (0xE6#8, .f1 .inqBp), (0xF6#8, .f1 .inqBpX),
   (0xEE#8, .f2 .inqAbs), (0xFE#8, .f2 .inqAbsX), (0x3A#8, .f0 .deqQ), (0xC6#8, .f1 .deqBp),
   (0xD6#8, .f1 .deqBpX), (0xCE#8, .f2 .deqAbs), (0xDE#8, .f2 .deqAbsX)]

/-- QRES: the reserved opcodes after `42 42` (R120). -/
def reservedMap : List (Byte × Cell) :=
  [(0x15#8, .f1 .resq15), (0x34#8, .f1 .resq34), (0x35#8, .f1 .resq35), (0x55#8, .f1 .resq55),
   (0x75#8, .f1 .resq75), (0x1D#8, .f2 .resq1D), (0x3C#8, .f2 .resq3C), (0x3D#8, .f2 .resq3D),
   (0x5D#8, .f2 .resq5D), (0x7D#8, .f2 .resq7D), (0x19#8, .f2 .resq19), (0x39#8, .f2 .resq39),
   (0x59#8, .f2 .resq59), (0x79#8, .f2 .resq79), (0x01#8, .f1 .resq01), (0x21#8, .f1 .resq21),
   (0x41#8, .f1 .resq41), (0x61#8, .f1 .resq61), (0x11#8, .f1 .resq11), (0x31#8, .f1 .resq31),
   (0x51#8, .f1 .resq51), (0x71#8, .f1 .resq71), (0x95#8, .f1 .rsvq95), (0xD5#8, .f1 .rsvqD5),
   (0xF5#8, .f1 .rsvqF5), (0x9D#8, .f2 .rsvq9D), (0xDD#8, .f2 .rsvqDD), (0xFD#8, .f2 .rsvqFD),
   (0x99#8, .f2 .rsvq99), (0xD9#8, .f2 .rsvqD9), (0xF9#8, .f2 .rsvqF9), (0x81#8, .f1 .rsvq81),
   (0xA1#8, .f1 .rsvqA1), (0xC1#8, .f1 .rsvqC1), (0xE1#8, .f1 .rsvqE1), (0x91#8, .f1 .rsvq91),
   (0xD1#8, .f1 .rsvqD1), (0xF1#8, .f1 .rsvqF1), (0x82#8, .f1 .rsvq82)]

/-- FAR: the opcodes after `EA` that make a 32-bit pointer form (R116). -/
def farMap : List (Byte × Cell) :=
  [(0x12#8, .f1 .oraFarZ), (0x32#8, .f1 .andFarZ), (0x52#8, .f1 .eorFarZ), (0x72#8, .f1 .adcFarZ),
   (0x92#8, .f1 .staFarZ), (0xB2#8, .f1 .ldaFarZ), (0xD2#8, .f1 .cmpFarZ), (0xF2#8, .f1 .sbcFarZ)]

/-- QFAR: the opcodes after `42 42 EA` (R117). -/
def quadFarMap : List (Byte × Cell) :=
  [(0x12#8, .f1 .orqFar), (0x32#8, .f1 .andqFar), (0x52#8, .f1 .eorqFar), (0x72#8, .f1 .adcqFar),
   (0x92#8, .f1 .stqFar), (0xB2#8, .f1 .ldqFarZ), (0xD2#8, .f1 .cmpqFar), (0xF2#8, .f1 .sbcqFar)]

/-- Read the operand bytes of a cell (R112). -/
def Cell.read (c : Cell) (bs : List Byte) : Decoded :=
  match c, bs with
  | .f0 i, rest => .ok (i, rest)
  | .f1 i, v :: rest => .ok (i v, rest)
  | .f2 i, ll :: hh :: rest => .ok (i (hh ++ ll), rest)
  | .f2br i, nn :: rr :: rest => .ok (i nn rr, rest)
  | .f1 _, [] => .error .truncated
  | .f2 _, [] | .f2 _, [_] => .error .truncated
  | .f2br _, [] | .f2br _, [_] => .error .truncated

/-- A base instruction: every opcode byte is one (R118, R122). -/
def decodeBase (op : Byte) (rest : List Byte) : Decoded :=
  match baseMap[op.toNat]? with
  | some c => c.read rest
  | none => .error .truncated

/-- The bytes after `42 42 EA` (R114 step 1, R117). -/
def decodeQuadFar (bs : List Byte) : Decoded :=
  match bs with
  | [] => .error .truncated
  | op :: rest =>
    match quadFarMap.lookup op with
    | some c => c.read rest
    | none => .error (.unlistedQuadFar op)

/-- The bytes after `42 42` (R114 steps 1 to 3, R115, R120, R121). -/
def decodeQuad (bs : List Byte) : Decoded :=
  match bs with
  | [] => .error .truncated
  | op :: rest =>
    if op = eomByte then decodeQuadFar rest
    else match (quadMap ++ reservedMap).lookup op with
      | some c => c.read rest
      | none => .error (.unlistedQuad op)

/-- Decode the instruction at the start of a byte sequence, by longest match (R114). A single `42` is NEG, a single `EA`
is EOM. -/
def decode (bs : List Byte) : Decoded :=
  match bs with
  | [] => .error .truncated
  | [b0] => decodeBase b0 []
  | b0 :: b1 :: rest =>
    if b0 = negByte ∧ b1 = negByte then decodeQuad rest
    else if b0 = eomByte then
      match farMap.lookup b1 with
      | some c => c.read rest
      | none => decodeBase b0 (b1 :: rest)
    else decodeBase b0 (b1 :: rest)

/-- The low byte of an operand word (R112). -/
def lowByte (w : Word) : Byte := w.extractLsb' 0 8

/-- The high byte of an operand word (R112). -/
def highByte (w : Word) : Byte := w.extractLsb' 8 8

/-- The bytes of an instruction: prefix bytes, opcode byte, operand bytes (R110 to R113), from the encodings its rule
gives. -/
def encode (i : Instr) : List Byte :=
  match i with
  | .brk sig => [0x00#8, sig]
  | .oraBpXInd nn => [0x01#8, nn]
  | .cle => [0x02#8]
  | .see => [0x03#8]
  | .tsbBp nn => [0x04#8, nn]
  | .oraBp nn => [0x05#8, nn]
  | .aslBp nn => [0x06#8, nn]
  | .rmb0 nn => [0x07#8, nn]
  | .php => [0x08#8]
  | .oraImm v => [0x09#8, v]
  | .aslA => [0x0A#8]
  | .tsy => [0x0B#8]
  | .tsbAbs a => [0x0C#8, lowByte a, highByte a]
  | .oraAbs a => [0x0D#8, lowByte a, highByte a]
  | .aslAbs a => [0x0E#8, lowByte a, highByte a]
  | .bbr0 nn d => [0x0F#8, nn, d]
  | .bplRel d => [0x10#8, d]
  | .oraBpIndY nn => [0x11#8, nn]
  | .oraBpIndZ nn => [0x12#8, nn]
  | .bplRelW d => [0x13#8, lowByte d, highByte d]
  | .trbBp nn => [0x14#8, nn]
  | .oraBpX nn => [0x15#8, nn]
  | .aslBpX nn => [0x16#8, nn]
  | .rmb1 nn => [0x17#8, nn]
  | .clc => [0x18#8]
  | .oraAbsY a => [0x19#8, lowByte a, highByte a]
  | .incA => [0x1A#8]
  | .inz => [0x1B#8]
  | .trbAbs a => [0x1C#8, lowByte a, highByte a]
  | .oraAbsX a => [0x1D#8, lowByte a, highByte a]
  | .aslAbsX a => [0x1E#8, lowByte a, highByte a]
  | .bbr1 nn d => [0x1F#8, nn, d]
  | .jsrAbs a => [0x20#8, lowByte a, highByte a]
  | .andBpXInd nn => [0x21#8, nn]
  | .jsrInd a => [0x22#8, lowByte a, highByte a]
  | .jsrIndX a => [0x23#8, lowByte a, highByte a]
  | .bitBp nn => [0x24#8, nn]
  | .andBp nn => [0x25#8, nn]
  | .rolBp nn => [0x26#8, nn]
  | .rmb2 nn => [0x27#8, nn]
  | .plp => [0x28#8]
  | .andImm v => [0x29#8, v]
  | .rolA => [0x2A#8]
  | .tys => [0x2B#8]
  | .bitAbs a => [0x2C#8, lowByte a, highByte a]
  | .andAbs a => [0x2D#8, lowByte a, highByte a]
  | .rolAbs a => [0x2E#8, lowByte a, highByte a]
  | .bbr2 nn d => [0x2F#8, nn, d]
  | .bmiRel d => [0x30#8, d]
  | .andBpIndY nn => [0x31#8, nn]
  | .andBpIndZ nn => [0x32#8, nn]
  | .bmiRelW d => [0x33#8, lowByte d, highByte d]
  | .bitBpX nn => [0x34#8, nn]
  | .andBpX nn => [0x35#8, nn]
  | .rolBpX nn => [0x36#8, nn]
  | .rmb3 nn => [0x37#8, nn]
  | .sec => [0x38#8]
  | .andAbsY a => [0x39#8, lowByte a, highByte a]
  | .decA => [0x3A#8]
  | .dez => [0x3B#8]
  | .bitAbsX a => [0x3C#8, lowByte a, highByte a]
  | .andAbsX a => [0x3D#8, lowByte a, highByte a]
  | .rolAbsX a => [0x3E#8, lowByte a, highByte a]
  | .bbr3 nn d => [0x3F#8, nn, d]
  | .rti => [0x40#8]
  | .eorBpXInd nn => [0x41#8, nn]
  | .neg => [0x42#8]
  | .asrA => [0x43#8]
  | .asrBp nn => [0x44#8, nn]
  | .eorBp nn => [0x45#8, nn]
  | .lsrBp nn => [0x46#8, nn]
  | .rmb4 nn => [0x47#8, nn]
  | .pha => [0x48#8]
  | .eorImm v => [0x49#8, v]
  | .lsrA => [0x4A#8]
  | .taz => [0x4B#8]
  | .jmpAbs a => [0x4C#8, lowByte a, highByte a]
  | .eorAbs a => [0x4D#8, lowByte a, highByte a]
  | .lsrAbs a => [0x4E#8, lowByte a, highByte a]
  | .bbr4 nn d => [0x4F#8, nn, d]
  | .bvcRel d => [0x50#8, d]
  | .eorBpIndY nn => [0x51#8, nn]
  | .eorBpIndZ nn => [0x52#8, nn]
  | .bvcRelW d => [0x53#8, lowByte d, highByte d]
  | .asrBpX nn => [0x54#8, nn]
  | .eorBpX nn => [0x55#8, nn]
  | .lsrBpX nn => [0x56#8, nn]
  | .rmb5 nn => [0x57#8, nn]
  | .cli => [0x58#8]
  | .eorAbsY a => [0x59#8, lowByte a, highByte a]
  | .phy => [0x5A#8]
  | .tab => [0x5B#8]
  | .map => [0x5C#8]
  | .eorAbsX a => [0x5D#8, lowByte a, highByte a]
  | .lsrAbsX a => [0x5E#8, lowByte a, highByte a]
  | .bbr5 nn d => [0x5F#8, nn, d]
  | .rts => [0x60#8]
  | .adcBpXInd nn => [0x61#8, nn]
  | .rtsImm n => [0x62#8, n]
  | .bsrRelW d => [0x63#8, lowByte d, highByte d]
  | .stzBp nn => [0x64#8, nn]
  | .adcBp nn => [0x65#8, nn]
  | .rorBp nn => [0x66#8, nn]
  | .rmb6 nn => [0x67#8, nn]
  | .pla => [0x68#8]
  | .adcImm v => [0x69#8, v]
  | .rorA => [0x6A#8]
  | .tza => [0x6B#8]
  | .jmpInd a => [0x6C#8, lowByte a, highByte a]
  | .adcAbs a => [0x6D#8, lowByte a, highByte a]
  | .rorAbs a => [0x6E#8, lowByte a, highByte a]
  | .bbr6 nn d => [0x6F#8, nn, d]
  | .bvsRel d => [0x70#8, d]
  | .adcBpIndY nn => [0x71#8, nn]
  | .adcBpIndZ nn => [0x72#8, nn]
  | .bvsRelW d => [0x73#8, lowByte d, highByte d]
  | .stzBpX nn => [0x74#8, nn]
  | .adcBpX nn => [0x75#8, nn]
  | .rorBpX nn => [0x76#8, nn]
  | .rmb7 nn => [0x77#8, nn]
  | .sei => [0x78#8]
  | .adcAbsY a => [0x79#8, lowByte a, highByte a]
  | .ply => [0x7A#8]
  | .tba => [0x7B#8]
  | .jmpIndX a => [0x7C#8, lowByte a, highByte a]
  | .adcAbsX a => [0x7D#8, lowByte a, highByte a]
  | .rorAbsX a => [0x7E#8, lowByte a, highByte a]
  | .bbr7 nn d => [0x7F#8, nn, d]
  | .braRel d => [0x80#8, d]
  | .staBpXInd nn => [0x81#8, nn]
  | .staSpIndY nn => [0x82#8, nn]
  | .braRelW d => [0x83#8, lowByte d, highByte d]
  | .styBp nn => [0x84#8, nn]
  | .staBp nn => [0x85#8, nn]
  | .stxBp nn => [0x86#8, nn]
  | .smb0 nn => [0x87#8, nn]
  | .dey => [0x88#8]
  | .bitImm v => [0x89#8, v]
  | .txa => [0x8A#8]
  | .styAbsX a => [0x8B#8, lowByte a, highByte a]
  | .styAbs a => [0x8C#8, lowByte a, highByte a]
  | .staAbs a => [0x8D#8, lowByte a, highByte a]
  | .stxAbs a => [0x8E#8, lowByte a, highByte a]
  | .bbs0 nn d => [0x8F#8, nn, d]
  | .bccRel d => [0x90#8, d]
  | .staBpIndY nn => [0x91#8, nn]
  | .staBpIndZ nn => [0x92#8, nn]
  | .bccRelW d => [0x93#8, lowByte d, highByte d]
  | .styBpX nn => [0x94#8, nn]
  | .staBpX nn => [0x95#8, nn]
  | .stxBpY nn => [0x96#8, nn]
  | .smb1 nn => [0x97#8, nn]
  | .tya => [0x98#8]
  | .staAbsY a => [0x99#8, lowByte a, highByte a]
  | .txs => [0x9A#8]
  | .stxAbsY a => [0x9B#8, lowByte a, highByte a]
  | .stzAbs a => [0x9C#8, lowByte a, highByte a]
  | .staAbsX a => [0x9D#8, lowByte a, highByte a]
  | .stzAbsX a => [0x9E#8, lowByte a, highByte a]
  | .bbs1 nn d => [0x9F#8, nn, d]
  | .ldyImm v => [0xA0#8, v]
  | .ldaBpXInd nn => [0xA1#8, nn]
  | .ldxImm v => [0xA2#8, v]
  | .ldzImm v => [0xA3#8, v]
  | .ldyBp nn => [0xA4#8, nn]
  | .ldaBp nn => [0xA5#8, nn]
  | .ldxBp nn => [0xA6#8, nn]
  | .smb2 nn => [0xA7#8, nn]
  | .tay => [0xA8#8]
  | .ldaImm v => [0xA9#8, v]
  | .tax => [0xAA#8]
  | .ldzAbs a => [0xAB#8, lowByte a, highByte a]
  | .ldyAbs a => [0xAC#8, lowByte a, highByte a]
  | .ldaAbs a => [0xAD#8, lowByte a, highByte a]
  | .ldxAbs a => [0xAE#8, lowByte a, highByte a]
  | .bbs2 nn d => [0xAF#8, nn, d]
  | .bcsRel d => [0xB0#8, d]
  | .ldaBpIndY nn => [0xB1#8, nn]
  | .ldaBpIndZ nn => [0xB2#8, nn]
  | .bcsRelW d => [0xB3#8, lowByte d, highByte d]
  | .ldyBpX nn => [0xB4#8, nn]
  | .ldaBpX nn => [0xB5#8, nn]
  | .ldxBpY nn => [0xB6#8, nn]
  | .smb3 nn => [0xB7#8, nn]
  | .clv => [0xB8#8]
  | .ldaAbsY a => [0xB9#8, lowByte a, highByte a]
  | .tsx => [0xBA#8]
  | .ldzAbsX a => [0xBB#8, lowByte a, highByte a]
  | .ldyAbsX a => [0xBC#8, lowByte a, highByte a]
  | .ldaAbsX a => [0xBD#8, lowByte a, highByte a]
  | .ldxAbsY a => [0xBE#8, lowByte a, highByte a]
  | .bbs3 nn d => [0xBF#8, nn, d]
  | .cpyImm v => [0xC0#8, v]
  | .cmpBpXInd nn => [0xC1#8, nn]
  | .cpzImm v => [0xC2#8, v]
  | .dewBp nn => [0xC3#8, nn]
  | .cpyBp nn => [0xC4#8, nn]
  | .cmpBp nn => [0xC5#8, nn]
  | .decBp nn => [0xC6#8, nn]
  | .smb4 nn => [0xC7#8, nn]
  | .iny => [0xC8#8]
  | .cmpImm v => [0xC9#8, v]
  | .dex => [0xCA#8]
  | .aswAbs a => [0xCB#8, lowByte a, highByte a]
  | .cpyAbs a => [0xCC#8, lowByte a, highByte a]
  | .cmpAbs a => [0xCD#8, lowByte a, highByte a]
  | .decAbs a => [0xCE#8, lowByte a, highByte a]
  | .bbs4 nn d => [0xCF#8, nn, d]
  | .bneRel d => [0xD0#8, d]
  | .cmpBpIndY nn => [0xD1#8, nn]
  | .cmpBpIndZ nn => [0xD2#8, nn]
  | .bneRelW d => [0xD3#8, lowByte d, highByte d]
  | .cpzBp nn => [0xD4#8, nn]
  | .cmpBpX nn => [0xD5#8, nn]
  | .decBpX nn => [0xD6#8, nn]
  | .smb5 nn => [0xD7#8, nn]
  | .cld => [0xD8#8]
  | .cmpAbsY a => [0xD9#8, lowByte a, highByte a]
  | .phx => [0xDA#8]
  | .phz => [0xDB#8]
  | .cpzAbs a => [0xDC#8, lowByte a, highByte a]
  | .cmpAbsX a => [0xDD#8, lowByte a, highByte a]
  | .decAbsX a => [0xDE#8, lowByte a, highByte a]
  | .bbs5 nn d => [0xDF#8, nn, d]
  | .cpxImm v => [0xE0#8, v]
  | .sbcBpXInd nn => [0xE1#8, nn]
  | .ldaSpIndY nn => [0xE2#8, nn]
  | .inwBp nn => [0xE3#8, nn]
  | .cpxBp nn => [0xE4#8, nn]
  | .sbcBp nn => [0xE5#8, nn]
  | .incBp nn => [0xE6#8, nn]
  | .smb6 nn => [0xE7#8, nn]
  | .inx => [0xE8#8]
  | .sbcImm v => [0xE9#8, v]
  | .eom => [0xEA#8]
  | .rowAbs a => [0xEB#8, lowByte a, highByte a]
  | .cpxAbs a => [0xEC#8, lowByte a, highByte a]
  | .sbcAbs a => [0xED#8, lowByte a, highByte a]
  | .incAbs a => [0xEE#8, lowByte a, highByte a]
  | .bbs6 nn d => [0xEF#8, nn, d]
  | .beqRel d => [0xF0#8, d]
  | .sbcBpIndY nn => [0xF1#8, nn]
  | .sbcBpIndZ nn => [0xF2#8, nn]
  | .beqRelW d => [0xF3#8, lowByte d, highByte d]
  | .phwImmW w => [0xF4#8, lowByte w, highByte w]
  | .sbcBpX nn => [0xF5#8, nn]
  | .incBpX nn => [0xF6#8, nn]
  | .smb7 nn => [0xF7#8, nn]
  | .sed => [0xF8#8]
  | .sbcAbsY a => [0xF9#8, lowByte a, highByte a]
  | .plx => [0xFA#8]
  | .plz => [0xFB#8]
  | .phwAbs a => [0xFC#8, lowByte a, highByte a]
  | .sbcAbsX a => [0xFD#8, lowByte a, highByte a]
  | .incAbsX a => [0xFE#8, lowByte a, highByte a]
  | .bbs7 nn d => [0xFF#8, nn, d]
  | .ldqBp nn => [0x42#8, 0x42#8, 0xA5#8, nn]
  | .ldqAbs a => [0x42#8, 0x42#8, 0xAD#8, lowByte a, highByte a]
  | .ldqBpIndZ nn => [0x42#8, 0x42#8, 0xB2#8, nn]
  | .stqBp nn => [0x42#8, 0x42#8, 0x85#8, nn]
  | .stqAbs a => [0x42#8, 0x42#8, 0x8D#8, lowByte a, highByte a]
  | .stqBpInd nn => [0x42#8, 0x42#8, 0x92#8, nn]
  | .adcqBp nn => [0x42#8, 0x42#8, 0x65#8, nn]
  | .adcqAbs a => [0x42#8, 0x42#8, 0x6D#8, lowByte a, highByte a]
  | .adcqBpInd nn => [0x42#8, 0x42#8, 0x72#8, nn]
  | .sbcqBp nn => [0x42#8, 0x42#8, 0xE5#8, nn]
  | .sbcqAbs a => [0x42#8, 0x42#8, 0xED#8, lowByte a, highByte a]
  | .sbcqBpInd nn => [0x42#8, 0x42#8, 0xF2#8, nn]
  | .cmpqBp nn => [0x42#8, 0x42#8, 0xC5#8, nn]
  | .cmpqAbs a => [0x42#8, 0x42#8, 0xCD#8, lowByte a, highByte a]
  | .cmpqBpInd nn => [0x42#8, 0x42#8, 0xD2#8, nn]
  | .andqBp nn => [0x42#8, 0x42#8, 0x25#8, nn]
  | .andqAbs a => [0x42#8, 0x42#8, 0x2D#8, lowByte a, highByte a]
  | .andqBpInd nn => [0x42#8, 0x42#8, 0x32#8, nn]
  | .orqBp nn => [0x42#8, 0x42#8, 0x05#8, nn]
  | .orqAbs a => [0x42#8, 0x42#8, 0x0D#8, lowByte a, highByte a]
  | .orqBpInd nn => [0x42#8, 0x42#8, 0x12#8, nn]
  | .eorqBp nn => [0x42#8, 0x42#8, 0x45#8, nn]
  | .eorqAbs a => [0x42#8, 0x42#8, 0x4D#8, lowByte a, highByte a]
  | .eorqBpInd nn => [0x42#8, 0x42#8, 0x52#8, nn]
  | .bitqBp nn => [0x42#8, 0x42#8, 0x24#8, nn]
  | .bitqAbs a => [0x42#8, 0x42#8, 0x2C#8, lowByte a, highByte a]
  | .aslqQ => [0x42#8, 0x42#8, 0x0A#8]
  | .aslqBp nn => [0x42#8, 0x42#8, 0x06#8, nn]
  | .aslqBpX nn => [0x42#8, 0x42#8, 0x16#8, nn]
  | .aslqAbs a => [0x42#8, 0x42#8, 0x0E#8, lowByte a, highByte a]
  | .aslqAbsX a => [0x42#8, 0x42#8, 0x1E#8, lowByte a, highByte a]
  | .asrqQ => [0x42#8, 0x42#8, 0x43#8]
  | .asrqBp nn => [0x42#8, 0x42#8, 0x44#8, nn]
  | .asrqBpX nn => [0x42#8, 0x42#8, 0x54#8, nn]
  | .lsrqQ => [0x42#8, 0x42#8, 0x4A#8]
  | .lsrqBp nn => [0x42#8, 0x42#8, 0x46#8, nn]
  | .lsrqBpX nn => [0x42#8, 0x42#8, 0x56#8, nn]
  | .lsrqAbs a => [0x42#8, 0x42#8, 0x4E#8, lowByte a, highByte a]
  | .lsrqAbsX a => [0x42#8, 0x42#8, 0x5E#8, lowByte a, highByte a]
  | .rolqQ => [0x42#8, 0x42#8, 0x2A#8]
  | .rolqBp nn => [0x42#8, 0x42#8, 0x26#8, nn]
  | .rolqBpX nn => [0x42#8, 0x42#8, 0x36#8, nn]
  | .rolqAbs a => [0x42#8, 0x42#8, 0x2E#8, lowByte a, highByte a]
  | .rolqAbsX a => [0x42#8, 0x42#8, 0x3E#8, lowByte a, highByte a]
  | .rorqQ => [0x42#8, 0x42#8, 0x6A#8]
  | .rorqBp nn => [0x42#8, 0x42#8, 0x66#8, nn]
  | .rorqBpX nn => [0x42#8, 0x42#8, 0x76#8, nn]
  | .rorqAbs a => [0x42#8, 0x42#8, 0x6E#8, lowByte a, highByte a]
  | .rorqAbsX a => [0x42#8, 0x42#8, 0x7E#8, lowByte a, highByte a]
  | .inqQ => [0x42#8, 0x42#8, 0x1A#8]
  | .inqBp nn => [0x42#8, 0x42#8, 0xE6#8, nn]
  | .inqBpX nn => [0x42#8, 0x42#8, 0xF6#8, nn]
  | .inqAbs a => [0x42#8, 0x42#8, 0xEE#8, lowByte a, highByte a]
  | .inqAbsX a => [0x42#8, 0x42#8, 0xFE#8, lowByte a, highByte a]
  | .deqQ => [0x42#8, 0x42#8, 0x3A#8]
  | .deqBp nn => [0x42#8, 0x42#8, 0xC6#8, nn]
  | .deqBpX nn => [0x42#8, 0x42#8, 0xD6#8, nn]
  | .deqAbs a => [0x42#8, 0x42#8, 0xCE#8, lowByte a, highByte a]
  | .deqAbsX a => [0x42#8, 0x42#8, 0xDE#8, lowByte a, highByte a]
  | .oraFarZ nn => [0xEA#8, 0x12#8, nn]
  | .andFarZ nn => [0xEA#8, 0x32#8, nn]
  | .eorFarZ nn => [0xEA#8, 0x52#8, nn]
  | .adcFarZ nn => [0xEA#8, 0x72#8, nn]
  | .staFarZ nn => [0xEA#8, 0x92#8, nn]
  | .ldaFarZ nn => [0xEA#8, 0xB2#8, nn]
  | .cmpFarZ nn => [0xEA#8, 0xD2#8, nn]
  | .sbcFarZ nn => [0xEA#8, 0xF2#8, nn]
  | .orqFar nn => [0x42#8, 0x42#8, 0xEA#8, 0x12#8, nn]
  | .andqFar nn => [0x42#8, 0x42#8, 0xEA#8, 0x32#8, nn]
  | .eorqFar nn => [0x42#8, 0x42#8, 0xEA#8, 0x52#8, nn]
  | .adcqFar nn => [0x42#8, 0x42#8, 0xEA#8, 0x72#8, nn]
  | .stqFar nn => [0x42#8, 0x42#8, 0xEA#8, 0x92#8, nn]
  | .ldqFarZ nn => [0x42#8, 0x42#8, 0xEA#8, 0xB2#8, nn]
  | .cmpqFar nn => [0x42#8, 0x42#8, 0xEA#8, 0xD2#8, nn]
  | .sbcqFar nn => [0x42#8, 0x42#8, 0xEA#8, 0xF2#8, nn]
  | .resq15 nn => [0x42#8, 0x42#8, 0x15#8, nn]
  | .resq34 nn => [0x42#8, 0x42#8, 0x34#8, nn]
  | .resq35 nn => [0x42#8, 0x42#8, 0x35#8, nn]
  | .resq55 nn => [0x42#8, 0x42#8, 0x55#8, nn]
  | .resq75 nn => [0x42#8, 0x42#8, 0x75#8, nn]
  | .resq1D a => [0x42#8, 0x42#8, 0x1D#8, lowByte a, highByte a]
  | .resq3C a => [0x42#8, 0x42#8, 0x3C#8, lowByte a, highByte a]
  | .resq3D a => [0x42#8, 0x42#8, 0x3D#8, lowByte a, highByte a]
  | .resq5D a => [0x42#8, 0x42#8, 0x5D#8, lowByte a, highByte a]
  | .resq7D a => [0x42#8, 0x42#8, 0x7D#8, lowByte a, highByte a]
  | .resq19 a => [0x42#8, 0x42#8, 0x19#8, lowByte a, highByte a]
  | .resq39 a => [0x42#8, 0x42#8, 0x39#8, lowByte a, highByte a]
  | .resq59 a => [0x42#8, 0x42#8, 0x59#8, lowByte a, highByte a]
  | .resq79 a => [0x42#8, 0x42#8, 0x79#8, lowByte a, highByte a]
  | .resq01 nn => [0x42#8, 0x42#8, 0x01#8, nn]
  | .resq21 nn => [0x42#8, 0x42#8, 0x21#8, nn]
  | .resq41 nn => [0x42#8, 0x42#8, 0x41#8, nn]
  | .resq61 nn => [0x42#8, 0x42#8, 0x61#8, nn]
  | .resq11 nn => [0x42#8, 0x42#8, 0x11#8, nn]
  | .resq31 nn => [0x42#8, 0x42#8, 0x31#8, nn]
  | .resq51 nn => [0x42#8, 0x42#8, 0x51#8, nn]
  | .resq71 nn => [0x42#8, 0x42#8, 0x71#8, nn]
  | .rsvq95 nn => [0x42#8, 0x42#8, 0x95#8, nn]
  | .rsvqD5 nn => [0x42#8, 0x42#8, 0xD5#8, nn]
  | .rsvqF5 nn => [0x42#8, 0x42#8, 0xF5#8, nn]
  | .rsvq9D a => [0x42#8, 0x42#8, 0x9D#8, lowByte a, highByte a]
  | .rsvqDD a => [0x42#8, 0x42#8, 0xDD#8, lowByte a, highByte a]
  | .rsvqFD a => [0x42#8, 0x42#8, 0xFD#8, lowByte a, highByte a]
  | .rsvq99 a => [0x42#8, 0x42#8, 0x99#8, lowByte a, highByte a]
  | .rsvqD9 a => [0x42#8, 0x42#8, 0xD9#8, lowByte a, highByte a]
  | .rsvqF9 a => [0x42#8, 0x42#8, 0xF9#8, lowByte a, highByte a]
  | .rsvq81 nn => [0x42#8, 0x42#8, 0x81#8, nn]
  | .rsvqA1 nn => [0x42#8, 0x42#8, 0xA1#8, nn]
  | .rsvqC1 nn => [0x42#8, 0x42#8, 0xC1#8, nn]
  | .rsvqE1 nn => [0x42#8, 0x42#8, 0xE1#8, nn]
  | .rsvq91 nn => [0x42#8, 0x42#8, 0x91#8, nn]
  | .rsvqD1 nn => [0x42#8, 0x42#8, 0xD1#8, nn]
  | .rsvqF1 nn => [0x42#8, 0x42#8, 0xF1#8, nn]
  | .rsvq82 nn => [0x42#8, 0x42#8, 0x82#8, nn]

/-- The bytes of a whole table word, with every bit from `nbits` on zero; five bytes, the longest instruction (R110).
DESIGN CHOICE, safe: the least significant byte of the word is the first byte of the instruction. R130 gives an order
only for the text of `match`, the first byte most significant, and none for prefix, opcode and operands as one number.
No step uses it. Log entry 20. -/
def tableBytes (nbits w : Nat) : List Byte :=
  [0, 1, 2, 3, 4].map fun k => BitVec.ofNat 8 (w % 2 ^ nbits / 256 ^ k)

/-- The instruction the decoder reads from a table word. -/
def decodeTableWord (nbits w : Nat) : Option Instr :=
  match decode (tableBytes nbits w) with
  | .ok (i, _) => some i
  | .error _ => none

end Sys2Proof

end
end

