-- ==== Sys2Proof/Config.lean ====
section
/-! DEFINITION. What an implementation fixes and the spec leaves OPEN (`00_scope.md` R6, `92_eei_decisions.md`), as
plain data that State carries and no step changes; and the free values, constants without a body, applied to a
counter of State. -/

namespace Sys2Proof

/-- Which opcode map the CPU decodes by (R5); only `p4510` is given a meaning. -/
inductive Personality where
  | p4510
  | p6502
  deriving DecidableEq, Repr

/-- `RelWordBase` (R6, R173, D24): a word-relative target is measured from the opcode's address plus 2 or plus 3. -/
inductive RelWordBase where
  | two
  | three
  deriving DecidableEq, Repr

/-- A range of the physical space that the platform's memory map declares to hold bytes, beyond the ranges the spec
fixes (R60, R82): RAM if `writable`, else ROM. Log entry 9. -/
structure Region where
  base : Nat
  size : Nat
  writable : Bool
  deriving DecidableEq, Repr

/-- The OPEN parameter `HREG` (R6, R476, U18): the slot of each saved byte, slot n being `$D640 + n`. Log entry 8. -/
structure HregLayout where
  a : BitVec 6
  x : BitVec 6
  y : BitVec 6
  z : BitVec 6
  b : BitVec 6
  spl : BitVec 6
  sph : BitVec 6
  p : BitVec 6
  pcLow : BitVec 6
  pcHigh : BitVec 6
  mapLo0 : BitVec 6
  mapLo1 : BitVec 6
  mapHi0 : BitVec 6
  mapHi1 : BitVec 6
  mbLo : BitVec 6
  mbHi : BitVec 6
  portDdr : BitVec 6
  portData : BitVec 6
  ioMode : BitVec 6
  deriving DecidableEq, Repr

/-- The slots a layout uses. -/
def HregLayout.slots (l : HregLayout) : List (BitVec 6) :=
  [l.a, l.x, l.y, l.z, l.b, l.spl, l.sph, l.p, l.pcLow, l.pcHigh, l.mapLo0, l.mapLo1, l.mapHi0, l.mapHi1, l.mbLo,
    l.mbHi, l.portDdr, l.portData, l.ioMode]

/-- The slot of `$D67F`, which leaves hypervisor mode in every layout (R476, R480). -/
def hregExit : BitVec 6 := 0x3F#6

/-- "each saved item has some slot, `$D67F` is the exit" (R476): a slot of its own, and none is the exit. -/
def HregLayout.wf (l : HregLayout) : Bool := decide l.slots.Nodup && !l.slots.contains hregExit

/-- The layout R476 suggests. -/
def HregLayout.suggested : HregLayout where
  a := 0x00#6
  x := 0x01#6
  y := 0x02#6
  z := 0x03#6
  b := 0x04#6
  spl := 0x05#6
  sph := 0x06#6
  p := 0x07#6
  pcLow := 0x08#6
  pcHigh := 0x09#6
  mapLo0 := 0x0A#6
  mapLo1 := 0x0B#6
  mapHi0 := 0x0C#6
  mapHi1 := 0x0D#6
  mbLo := 0x0E#6
  mbHi := 0x0F#6
  portDdr := 0x10#6
  portData := 0x11#6
  ioMode := 0x12#6

/-- The OPEN parameters of R6, as plain data. Log entries 5, 6, 7, 8, 9, 18. -/
structure Config where
  /-- `Personality` (R5, D1). -/
  personality : Personality
  /-- `HYPER_PHYS_BASE` (R72). -/
  hyperBase : Phys
  /-- `IO_PHYS_BASE(IoMode)` (R73), by the code of the I/O mode; any address. -/
  ioBases : List (Byte × Phys)
  /-- `IO_PHYS_BASE` of the I/O modes that `ioBases` does not list. -/
  ioElse : Phys
  /-- `HREG`, the layout of the virtualisation control registers (R476). -/
  hregLayout : HregLayout
  /-- The platform's memory map beyond R82. -/
  regions : List Region
  /-- `SyscallOnRead` (R74, R461, D32). -/
  syscallOnRead : Bool
  /-- `Rmw65ce02DummyWrite` (R79, D17). -/
  rmw65ce02DummyWrite : Bool
  /-- `RomWritable` (R71, D13). -/
  romWritable : Bool
  /-- `RelWordBase` (R173, D24). -/
  relWordBase : RelWordBase
  /-- `BitImmSetsNV` (R349, D29). -/
  bitImmSetsNV : Bool
  /-- `IntClearsD` (R455, D37). -/
  intClearsD : Bool
  /-- `HyperPortValue` for `$00` (R472, D20). -/
  hyperPortDdr : Byte
  /-- `HyperPortValue` for `$01` (R472, D20). -/
  hyperPortData : Byte
  /-- Bit 4 (the place of B) of the P byte that trap entry saves, which R476 does not give. -/
  trapBreakBit : Bool
  deriving DecidableEq, Repr

/-- What the rules ask of the parameters: a `HREG` layout, and a hypervisor memory that trap entry can reach, since a
MAP offset counts 256 bytes and does not carry out of 20 bits (R69, R472, D12). Log entries 6, 8. -/
def Config.wf (c : Config) : Bool :=
  c.hregLayout.wf && c.hyperBase.extractLsb' 0 8 == 0x00#8 && decide ((c.hyperBase.extractLsb' 0 20).toNat ≤ 0xFC000)

/-- The values `State.reset` carries: the spec's default or suggestion where it gives one (R6, R472), else a choice
(log entries 5, 6, 7, 8, 9, 18). No statement rests on them. -/
def Config.default : Config where
  personality := .p4510
  hyperBase := 0xFFF8000#28
  ioBases := [(0x00#8, 0xFFD0000#28), (0x01#8, 0xFFD1000#28), (0x03#8, 0xFFD3000#28)]
  ioElse := 0xFFD2000#28
  hregLayout := .suggested
  regions := [⟨0x10000, 0xF800, true⟩, ⟨0x40000, 0x20000, true⟩, ⟨0x8000000, 0x800000, true⟩]
  syscallOnRead := true
  rmw65ce02DummyWrite := false
  romWritable := false
  relWordBase := .two
  bitImmSetsNV := true
  intClearsD := true
  hyperPortDdr := 0x3F#8
  hyperPortData := 0x35#8
  trapBreakBit := false

/-- FREE VALUE: the platform's answer to a read when State queues none (R81, U7, U15, U16). Log entry 10. -/
opaque Config.freeByte : Nat → Byte

/-- FREE VALUE: V after a decimal ADC or SBC (R350 `DecimalV`, U5; and U4). Log entry 17. -/
opaque Config.freeDecimalV : Nat → Bool

/-- FREE VALUE: the result of a decimal ADC or SBC on operands that are not BCD (R350, U4). Log entry 17. -/
opaque Config.freeDecimalResult : Nat → Byte

/-- FREE VALUE: N after a decimal ADC or SBC on operands that are not BCD (R350, U4). Log entry 17. -/
opaque Config.freeDecimalN : Nat → Bool

/-- FREE VALUE: Zf after a decimal ADC or SBC on operands that are not BCD (R350, U4). Log entry 17. -/
opaque Config.freeDecimalZ : Nat → Bool

/-- FREE VALUE: C after a decimal ADC or SBC on operands that are not BCD (R350, U4). Log entry 17. -/
opaque Config.freeDecimalC : Nat → Bool

/-- FREE VALUE: `MAPLO_OFF` as trap entry leaves it, "unspecified" (R472). Log entry 19. -/
opaque Config.freeMapLoOff : Nat → BitVec 12

/-- FREE VALUE: `MB_LO` as trap entry leaves it, "unspecified" (R472). Log entry 19. -/
opaque Config.freeMbLo : Nat → Byte

end Sys2Proof
end

