-- ==== Sys2Proof/Machine/State.lean ====
section
/-! DEFINITION. The machine's state as plain data (`10_state.md`), the state after reset (R49), and the reasons a step
can stop. -/

namespace Sys2Proof.Machine

/-- The stored flags of P (R28 to R36); B is not stored (R32). -/
structure Flags where
  /-- Negative (R29). -/
  n : Bool
  /-- Overflow (R30). -/
  v : Bool
  /-- Stack extend disable (R31). -/
  e : Bool
  /-- Decimal (R33). -/
  d : Bool
  /-- Interrupt disable (R34). -/
  i : Bool
  /-- Zero, the spec's `Zf` (R35). -/
  z : Bool
  /-- Carry (R36). -/
  c : Bool
  deriving DecidableEq, Repr

/-- The memory-mapping registers of `MAP` (R37, R38). -/
structure MapRegs where
  /-- `MAPLO_OFF`, in units of 256 bytes. -/
  loOff : BitVec 12
  /-- `MAPLO_EN`: bit k enables block k. -/
  loEn : BitVec 4
  /-- `MAPHI_OFF`. -/
  hiOff : BitVec 12
  /-- `MAPHI_EN`: bit k enables block 4+k. -/
  hiEn : BitVec 4
  /-- `MB_LO`. -/
  mbLo : Byte
  /-- `MB_HI`. -/
  mbHi : Byte
  deriving DecidableEq, Repr

/-- One transaction of the CPU with the platform: a read it answered, or a write that acted on it (R73, R81).
Log entry 12. -/
inductive BusEvent where
  | read (p : Phys) (v : Byte)
  | write (p : Phys) (v : Byte)
  deriving DecidableEq, Repr

/-- What the platform does between two instructions (R13, R44, R46, R47, R86). Log entry 11. -/
structure Input where
  /-- A new level of `IrqLine`, if it changes. -/
  irq : Option Bool := none
  /-- A falling edge on the NMI input (R457). -/
  nmiEdge : Bool := false
  /-- Power-on, the reset line lowered, or a watchdog reset (R460). -/
  reset : Bool := false
  /-- A platform trap event with its trap number (R460, R463, R465). DESIGN CHOICE, safe: any of the 128 numbers, also those
  of the SYSCALLs and of reset; R460, R462, R463 and U10 name `$41` to `$7E` only. Log entry 11. -/
  trap : Option (BitVec 7) := none
  /-- A new value of the VIC-III banking register (R44). -/
  d030 : Option Byte := none
  /-- A new I/O mode (R46). -/
  ioMode : Option Byte := none
  /-- The bytes a DMA job writes, in order, at any physical address (R86). -/
  dma : List (Phys × Byte) := []
  deriving DecidableEq, Repr

/-- The state of the machine. -/
structure State where
  /-- The Accumulator (R20). -/
  a : Byte
  /-- The X register (R21). -/
  x : Byte
  /-- The Y register (R22). -/
  y : Byte
  /-- The Z register (R23). -/
  z : Byte
  /-- The Base Page register (R25). -/
  b : Byte
  /-- The stack pointer's high byte (R26). -/
  sph : Byte
  /-- The stack pointer's low byte (R26). -/
  spl : Byte
  /-- The program counter (R27). -/
  pc : Word
  /-- The stored flags (R28). -/
  fl : Flags
  /-- The mapping registers (R37, R38). -/
  map : MapRegs
  /-- `MapInhibit` (R39). -/
  mapInhibit : Bool
  /-- `Hyper`, the hypervisor-mode flag (R40). -/
  hyper : Bool
  /-- `PORT_DDR`, the CPU port's `$00` (R41). -/
  portDdr : Byte
  /-- `PORT_DATA`, the CPU port's `$01` (R41). -/
  portData : Byte
  /-- The virtualisation control registers `HREG[0..63]` (R42, R476). -/
  hreg : Vector Byte 64
  /-- `MapInhibit` as trap entry saved it, which has no slot in `HREG` (R476, log entry 8). -/
  savedMapInhibit : Bool
  /-- `SPEEDBIAS` (R43). -/
  speedBias : Byte
  /-- The copy of the VIC-III register `$D030` (R44). -/
  d030 : Byte
  /-- The code of `IoMode` (R46). -/
  ioMode : Byte
  /-- `IrqLine` (R47, R456). -/
  irqLine : Bool
  /-- `NmiPending` (R47, R457). -/
  nmiPending : Bool
  /-- `ResetLine`: a reset event not yet taken (R47, R459). -/
  resetLine : Bool
  /-- `TrapRequest` (R47, R460). -/
  trapRequest : Option (BitVec 7)
  /-- The SYSCALL that the instruction just completed raised, not yet taken: the lowest register touched (R452, R459,
  R461, D27). Log entry 14. -/
  syscall : Option (BitVec 6)
  /-- The bytes of RAM, ROM and hypervisor memory by physical address, in canonical form (R60, R72, R82). -/
  mem : List Host.Cell
  /-- The OPEN parameters (R6). The model's own field: no step changes it. -/
  cfg : Config
  /-- The platform's inputs to come, one for each boundary. The model's own field. -/
  inputs : List Input
  /-- The platform's answers to the next device reads. The model's own field. -/
  answers : List Byte
  /-- The counter free values are drawn with. The model's own field. -/
  free : Nat
  /-- The CPU's transactions with the platform, the newest first. The model's own field. -/
  trace : List BusEvent
  /-- An event was taken at this boundary and no instruction has run since (R459). The model's own field. -/
  atEntry : Bool
  deriving DecidableEq, Repr

/-- The reasons for a fault: there are none. "No instruction of the 4510 personality raises a synchronous *fault*"
(R11, R451, R84), and every address of both spaces exists (R60). Log entry 26. -/
inductive Fault
  deriving DecidableEq, Repr

/-- The reasons a step is refused. -/
inductive Refusal where
  /-- An instruction without a meaning in this model, raised by `exec`'s arm only; safe. No arm raises it now. -/
  | notModelled (mnemonic : String)
  /-- RESQ or RSVQ, "UNDEFINED" (R248, R249, U3); raised by their meanings; safe: nothing is claimed of them. -/
  | reservedEncoding
  /-- ADCQ with D = 1, "the operation is undefined" (R200, U1); raised by ADCQ's meanings; safe. -/
  | adcqDecimal
  /-- SBCQ with D = 1, "Operation is reserved" (R201, U2); raised by SBCQ's meanings; safe. -/
  | sbcqDecimal
  /-- `42 42` or `42 42 EA` before an opcode the spec does not list (R121, U6); raised by `step`; safe. -/
  | unlistedPrefix
  /-- The 6502 personality in normal mode (R5, U8); raised by `step`; safe. -/
  | personality6502
  deriving DecidableEq, Repr

/-- The machine right after reset (R49, R521): the result of trap entry `$40`. What the spec leaves unspecified has the
value log entries 1, 2, 3, 5 and 7 name. -/
def State.reset : State where
  a := 0x00#8
  x := 0x00#8
  y := 0x00#8
  z := 0x00#8
  b := 0xBF#8
  sph := 0xBE#8
  spl := 0xFF#8
  pc := 0x8100#16
  fl := { n := false, v := false, e := true, d := false, i := true, z := false, c := false }
  map := { loOff := 0x000#12, loEn := 0x0#4, hiOff := 0xF00#12, hiEn := 0x3#4, mbLo := 0x00#8, mbHi := 0xFF#8 }
  mapInhibit := false
  hyper := true
  portDdr := 0x3F#8
  portData := 0x35#8
  hreg := Vector.replicate 64 0x00#8
  savedMapInhibit := false
  speedBias := 0x80#8
  d030 := 0x00#8
  ioMode := 0x03#8
  irqLine := false
  nmiPending := false
  resetLine := false
  trapRequest := none
  syscall := none
  mem := []
  cfg := Config.default
  inputs := []
  answers := []
  free := 0
  trace := []
  atEntry := true

end Sys2Proof.Machine
end

