-- ==== Sys2Proof/Machine/Flags.lean ====
section
/-! DEFINITION. The P byte, and every flag computation of the instruction set: NZ of a result, binary and decimal
addition and subtraction, comparison, bit test, shifts (`10_state.md` R28 to R36; the flag lines of files 42, 43, 47). -/

namespace Sys2Proof.Machine

/-- The eight flags as the byte pushed on the stack, `N V E B D I Z C` from bit 7 down (R28); `brk` is the B position
(R32). -/
def Flags.pack (fl : Flags) (brk : Bool) : Byte :=
  BitVec.ofBool fl.n ++ BitVec.ofBool fl.v ++ BitVec.ofBool fl.e ++ BitVec.ofBool brk ++
    BitVec.ofBool fl.d ++ BitVec.ofBool fl.i ++ BitVec.ofBool fl.z ++ BitVec.ofBool fl.c

/-- The flags `PLP` and `RTI` load from a pulled byte: bits 5 and 4 are ignored, E is kept (R31, R32, R311, R428). -/
def Flags.pulled (fl : Flags) (v : Byte) : Flags :=
  { n := v.getLsbD 7, v := v.getLsbD 6, e := fl.e, d := v.getLsbD 3, i := v.getLsbD 2, z := v.getLsbD 1, c := v.getLsbD 0 }

/-- The flags a saved P byte holds, E included, as trap return restores them (R480 "P incl. E"). -/
def Flags.ofSaved (v : Byte) : Flags :=
  { n := v.getLsbD 7, v := v.getLsbD 6, e := v.getLsbD 5, d := v.getLsbD 3, i := v.getLsbD 2, z := v.getLsbD 1, c := v.getLsbD 0 }

/-- N and Zf from a result of any width: its top bit, and whether all of it is zero (R29, R35). -/
def Flags.nz {w : Nat} (fl : Flags) (r : BitVec w) : Flags :=
  { fl with n := r.msb, z := r == 0#w }

/-- N, Zf and C together (shifts, rotates, comparisons). -/
def Flags.nzc {w : Nat} (fl : Flags) (r : BitVec w) (c : Bool) : Flags :=
  { fl.nz r with c := c }

/-- A sum with its carry out and signed overflow. -/
structure Sum (w : Nat) where
  r : BitVec w
  c : Bool
  v : Bool
  deriving DecidableEq, Repr

/-- `S <- zext(x) + zext(y) + C` in one bit more than `w`: the result, the carry, and V when the result's sign differs
from that of both arguments (R200, R340). -/
def addWithCarry {w : Nat} (x y : BitVec w) (cin : Bool) : Sum w :=
  let s : BitVec (w + 1) := x.setWidth (w + 1) + y.setWidth (w + 1) + (BitVec.ofBool cin).setWidth (w + 1)
  let r := s.setWidth w
  { r := r, c := s.msb, v := x.msb == y.msb && r.msb != x.msb }

/-- `S <- zext(x) + zext(not y) + C`, that is x - y - 1 + C; the carry is "no borrow", V the signed overflow of the
subtraction (R201, R341). -/
def subWithCarry {w : Nat} (x y : BitVec w) (cin : Bool) : Sum w :=
  let s : BitVec (w + 1) := x.setWidth (w + 1) + (~~~y).setWidth (w + 1) + (BitVec.ofBool cin).setWidth (w + 1)
  let r := s.setWidth w
  { r := r, c := s.msb, v := x.msb != y.msb && r.msb != x.msb }

/-- N, V, Zf and C of a binary addition or subtraction (R200, R201, R340, R341). -/
def Flags.ofSum {w : Nat} (fl : Flags) (o : Sum w) : Flags :=
  { fl.nzc o.r o.c with v := o.v }

/-- N, Zf and C of a comparison of x with y; V is unchanged (R202, R342). -/
def Flags.compare {w : Nat} (fl : Flags) (x y : BitVec w) : Flags :=
  let o := subWithCarry x y true
  fl.nzc o.r o.c

/-- `BIT` and `BITQ`: N and V are the operand's two top bits, Zf tests `x and m` (R206, R349). -/
def Flags.bitTest {w : Nat} (fl : Flags) (x m : BitVec w) : Flags :=
  { fl with n := m.getMsbD 0, v := m.getMsbD 1, z := (x &&& m) == 0#w }

/-- `BIT #` when `BitImmSetsNV` is false: only Zf (R349, D29). -/
def Flags.bitTestZ {w : Nat} (fl : Flags) (x m : BitVec w) : Flags :=
  { fl with z := (x &&& m) == 0#w }

/-- Whether both nibbles of a byte are decimal digits (R350). -/
def isBcd (v : Byte) : Bool :=
  (v.extractLsb' 4 4).toNat ≤ 9 && (v.extractLsb' 0 4).toNat ≤ 9

/-- The number a BCD byte stands for: `10·v[7:4] + v[3:0]` (R350). -/
def bcdValue (v : Byte) : Nat :=
  10 * (v.extractLsb' 4 4).toNat + (v.extractLsb' 0 4).toNat

/-- The BCD byte of a number below 100: `(r div 10) ‖ (r mod 10)` (R350). -/
def bcdOfNat (r : Nat) : Byte :=
  BitVec.ofNat 4 (r / 10) ++ BitVec.ofNat 4 (r % 10)

/-- Decimal addition: the BCD result and the carry `s > 99` (R350). -/
def decimalAdd (x y : Byte) (cin : Bool) : Byte × Bool :=
  let s := bcdValue x + bcdValue y + cin.toNat
  (bcdOfNat (s % 100), decide (99 < s))

/-- Decimal subtraction: the BCD result and the carry `s ≥ 0` of `s = x - y - (1 - C)` (R350). -/
def decimalSub (x y : Byte) (cin : Bool) : Byte × Bool :=
  let s : Int := (bcdValue x : Int) - bcdValue y - (1 - cin.toNat)
  (bcdOfNat (s % 100).toNat, decide (0 ≤ s))

/-- A decimal ADC or SBC with result and carry `rc`: for BCD operands N and Zf reflect the result and V is a free value;
for others the result and all four flags are free values (R350, U4, U5). Log entry 17. -/
def State.decimalResult (rc : Byte × Bool) (valid : Bool) (s : State) : State :=
  if valid then
    { s with a := rc.1, fl := { s.fl.nzc rc.1 rc.2 with v := Config.freeDecimalV s.free }, free := s.free + 1 }
  else
    { s with
      a := Config.freeDecimalResult s.free
      fl := { s.fl with n := Config.freeDecimalN s.free, v := Config.freeDecimalV s.free,
                        z := Config.freeDecimalZ s.free, c := Config.freeDecimalC s.free }
      free := s.free + 1 }

/-- A binary ADC or SBC of A (R340, R341). -/
def State.binaryResult (o : Sum 8) (s : State) : State :=
  { s with a := o.r, fl := s.fl.ofSum o }

/-- ADC of A and `m`, binary or decimal by flag D (R340, R350). -/
def State.adc (m : Byte) (s : State) : State :=
  if s.fl.d then s.decimalResult (decimalAdd s.a m s.fl.c) (isBcd s.a && isBcd m)
  else s.binaryResult (addWithCarry s.a m s.fl.c)

/-- SBC of A and `m`, binary or decimal by flag D (R341, R350). -/
def State.sbc (m : Byte) (s : State) : State :=
  if s.fl.d then s.decimalResult (decimalSub s.a m s.fl.c) (isBcd s.a && isBcd m)
  else s.binaryResult (subWithCarry s.a m s.fl.c)

/-- The five shifts and rotates, at 8, 16 and 32 bits. -/
inductive ShiftOp where
  | asl
  | lsr
  | rol
  | ror
  | asr
  deriving DecidableEq, Repr

/-- A shift's result and the bit shifted out, from the carry before it (R220 to R224, R351 to R357). -/
def shiftBits {w : Nat} (op : ShiftOp) (cin : Bool) (v : BitVec w) : BitVec w × Bool :=
  match op with
  | .asl => (v <<< 1, v.msb)
  | .lsr => (v >>> 1, v.getLsbD 0)
  | .rol => ((v <<< 1) ||| (BitVec.ofBool cin).setWidth w, v.msb)
  | .ror => ((v >>> 1) ||| ((BitVec.ofBool cin).setWidth w <<< (w - 1)), v.getLsbD 0)
  | .asr => (v.sshiftRight 1, v.getLsbD 0)

/-- A shift's result with the flags N, Zf and C it leaves. -/
def shiftResult {w : Nat} (op : ShiftOp) (fl : Flags) (v : BitVec w) : BitVec w × Flags :=
  let (r, c) := shiftBits op fl.c v
  (r, fl.nzc r c)

/-- An increment's or decrement's result with the flags N and Zf it leaves; C and V are unchanged
(R225, R226, R360 to R371). -/
def stepResult {w : Nat} (up : Bool) (fl : Flags) (v : BitVec w) : BitVec w × Flags :=
  let r := if up then v + 1#w else v - 1#w
  (r, fl.nz r)

end Sys2Proof.Machine
end

