-- ==== Sys2Proof/Machine/Ops.lean ====
section
/-! DEFINITION. The named operations over memory and registers: the byte list, translation of a CPU-view address
(`20_memory.md` R66 to R70), physical reads and writes with the devices the CPU itself implements (R72 to R74), the
stack (R300), TAKING AN EXCEPTION (interrupt entry R455, trap entry R470) and the return from one (R480). -/

namespace Sys2Proof.Machine

/-! ### Memory: a list of cells in canonical form -/

/-- What an address that no cell lists reads as. Log entry 1. -/
def Memory.unlisted : Byte := 0x00#8

/-- The byte at physical address `p`. -/
def Memory.read : List Host.Cell → Nat → Byte
  | [], _ => Memory.unlisted
  | (k, w) :: m, p => if p = k then w else if p < k then Memory.unlisted else Memory.read m p

/-- The cells with the byte at `p` replaced; a cell equal to what an unlisted address reads as is not kept. -/
def Memory.write : List Host.Cell → Nat → Byte → List Host.Cell
  | [], p, v => if v = Memory.unlisted then [] else [(p, v)]
  | (k, w) :: m, p, v =>
    if p < k then (if v = Memory.unlisted then (k, w) :: m else (p, v) :: (k, w) :: m)
    else if p = k then (if v = Memory.unlisted then m.dropWhile (fun c => decide (c.1 ≤ p)) else (p, v) :: m)
    else (k, w) :: Memory.write m p v

/-- The canonical form: addresses strictly rising, no cell equal to what an unlisted address reads as. -/
abbrev Memory.wf (m : List Host.Cell) : Prop :=
  m.Pairwise (fun c c' => c.1 < c'.1) ∧ ∀ c ∈ m, c.2 ≠ Memory.unlisted

/-! ### Registers -/

/-- The 8-bit registers that instructions name. -/
inductive Reg where
  | a
  | x
  | y
  | z
  | b
  | sph
  | spl
  deriving DecidableEq, Repr

/-- Read a register. -/
def State.reg (s : State) : Reg → Byte
  | .a => s.a
  | .x => s.x
  | .y => s.y
  | .z => s.z
  | .b => s.b
  | .sph => s.sph
  | .spl => s.spl

/-- Write a register. -/
def State.setReg (s : State) (r : Reg) (v : Byte) : State :=
  match r with
  | .a => { s with a := v }
  | .x => { s with x := v }
  | .y => { s with y := v }
  | .z => { s with z := v }
  | .b => { s with b := v }
  | .sph => { s with sph := v }
  | .spl => { s with spl := v }

/-- The pseudo register Q = Z ‖ Y ‖ X ‖ A (R24). -/
def State.q (s : State) : Quad := s.z ++ s.y ++ s.x ++ s.a

/-- Writing Q sets the four registers, A from the least significant byte (R24, R9). -/
def State.setQ (s : State) (v : Quad) : State :=
  { s with a := v.extractLsb' 0 8, x := v.extractLsb' 8 8, y := v.extractLsb' 16 8, z := v.extractLsb' 24 8 }

/-- SP = SPH ‖ SPL (R26). -/
def State.sp (s : State) : Word := s.sph ++ s.spl

/-- SP moved by `d`: with E = 1 only SPL moves, modulo 256; with E = 0 the whole 16-bit SP (R26, R31, R300). -/
def State.moveSp (s : State) (d : Word) : State :=
  if s.fl.e then { s with spl := s.spl + d.setWidth 8 }
  else
    let sp := s.sp + d
    { s with sph := sp.extractLsb' 8 8, spl := sp.extractLsb' 0 8 }

/-! ### Physical space -/

/-- The code of the I/O mode `mega65` (R46). Log entry 7. -/
def ioMega65 : Byte := 0x03#8

/-- `IO_PHYS_BASE(IoMode)` (R73). -/
def State.ioBase (s : State) : Phys := (s.cfg.ioBases.lookup s.ioMode).getD s.cfg.ioElse

/-- Whether the `size` bytes from `base` on hold `p`, modulo 2^28. Log entry 7. -/
def inBlock (base : Phys) (size : Nat) (p : Phys) : Bool := decide ((p - base).toNat < size)

/-- Whether `p` is in the 16 KiB of the hypervisor memory (R72). -/
def State.inHyper (s : State) (p : Phys) : Bool := inBlock s.cfg.hyperBase 0x4000 p

/-- What a physical address is (R60, R72, R73, R82). -/
inductive PhysKind where
  /-- The 16 KiB hypervisor memory. -/
  | hyperMem
  /-- The I/O block of the current I/O mode, at this offset. -/
  | io (off : BitVec 12)
  | rom
  | ram
  /-- A device or an unpopulated address: reads are the platform's answers, writes its actions. -/
  | platform
  deriving DecidableEq, Repr

/-- RAM at fixed addresses: the first 64 KB, the colour RAM window, the colour RAM (R68, R82). -/
def fixedRam (p : Nat) : Bool :=
  p < 0x10000 || (0x1F800 ≤ p && p < 0x20000) || (0xFF80000 ≤ p && p < 0xFF88000)

/-- The C65's 128 KB ROM (R82). -/
def fixedRom (p : Nat) : Bool := 0x20000 ≤ p && p < 0x40000

/-- Whether a region of the platform's map holds `p`. -/
def regionHolds (p : Nat) (r : Region) : Bool := r.base ≤ p && p < r.base + r.size

/-- The kind of physical address `p`; where the platform's map lays ranges over one another, the first of hypervisor
memory, I/O block, RAM and ROM of R82, and the table's regions in order. Log entry 9. -/
def State.kindOf (s : State) (p : Phys) : PhysKind :=
  if s.inHyper p then .hyperMem
  else if inBlock s.ioBase 0x1000 p then .io ((p - s.ioBase).setWidth 12)
  else if fixedRam p.toNat then .ram
  else if fixedRom p.toNat then .rom
  else match s.cfg.regions.find? (regionHolds p.toNat) with
    | some r => if r.writable then .ram else .rom
    | none => .platform

/-- The byte that RAM, ROM, or the hypervisor memory in hypervisor mode holds at `p`; none elsewhere (R60, R72). -/
def State.readCell (s : State) (p : Phys) : Option Byte :=
  match s.kindOf p with
  | .ram | .rom => some (Memory.read s.mem p.toNat)
  | .hyperMem => if s.hyper then some (Memory.read s.mem p.toNat) else none
  | .io _ | .platform => none

/-- The state with the byte at `p` replaced. -/
def State.setCell (s : State) (p : Phys) (v : Byte) : State :=
  { s with mem := Memory.write s.mem p.toNat v }

/-- A write to RAM, to ROM (by `RomWritable`, R71) or to the hypervisor memory (dropped in normal mode, R72); none at
an I/O or platform address. -/
def State.writeCell (s : State) (p : Phys) (v : Byte) : Option State :=
  match s.kindOf p with
  | .ram => some (s.setCell p v)
  | .rom => some (if s.cfg.romWritable then s.setCell p v else s)
  | .hyperMem => some (if s.hyper then s.setCell p v else s)
  | .io _ | .platform => none

/-! ### An instruction in progress -/

/-- An access is a data read, a data write or an instruction fetch (R66). -/
inductive Access where
  | read
  | write
  | fetch
  deriving DecidableEq, Repr

/-- The machine inside an instruction: its state so far, and whether an access wrote `$D67F` in hypervisor mode
(R480). -/
structure Ctx where
  st : State
  leave : Bool
  deriving DecidableEq, Repr

/-- No access made yet. -/
def Ctx.of (s : State) : Ctx := { st := s, leave := false }

/-- The start of an instruction of `len` bytes: PC is past it before its meaning runs (R114). -/
def Ctx.start (len : Nat) (s : State) : Ctx := Ctx.of { s with pc := s.pc + BitVec.ofNat 16 len }

/-- Change the state inside an instruction. -/
def Ctx.upd (f : State → State) (c : Ctx) : Ctx := { c with st := f c.st }

/-- The platform answers a read at `p`: the next queued answer, or a free value (R81). Log entry 10. -/
def Ctx.answer (p : Phys) (c : Ctx) : Byte × Ctx :=
  match c.st.answers with
  | v :: rest => (v, c.upd fun s => { s with answers := rest, trace := .read p v :: s.trace })
  | [] =>
    let v := Config.freeByte c.st.free
    (v, c.upd fun s => { s with free := s.free + 1, trace := .read p v :: s.trace })

/-- A write the platform acts on. -/
def Ctx.act (p : Phys) (v : Byte) (c : Ctx) : Ctx :=
  c.upd fun s => { s with trace := .write p v :: s.trace }

/-- The lower of a SYSCALL already raised and SYSCALL `n`. A SYSCALL still pending from the pushes or the vector read of
an interrupt entry counts with those of the handler's first instruction, and one trap is taken: DESIGN CHOICE, log
entries 14 and 27. -/
def lowerSyscall (n : BitVec 6) (raised : Option (BitVec 6)) : BitVec 6 :=
  match raised with
  | none => n
  | some k => if n < k then n else k

/-- An access touched SYSCALL register `n`; the trap is numbered by the lowest one touched (R193, R461, D27),
also where the other was touched by the interrupt entry just before (DESIGN CHOICE, log entries 14 and 27). -/
def Ctx.touch (n : BitVec 6) (c : Ctx) : Ctx :=
  c.upd fun s => { s with syscall := some (lowerSyscall n s.syscall) }

/-- Read a byte that is RAM, ROM or hypervisor memory, else ask the platform. -/
def Ctx.readCell (p : Phys) (c : Ctx) : Byte × Ctx :=
  match c.st.readCell p with
  | some v => (v, c)
  | none => c.answer p

/-- Write a byte that is RAM, ROM or hypervisor memory, else let the platform act. -/
def Ctx.writeCell (p : Phys) (v : Byte) (c : Ctx) : Ctx :=
  match c.st.writeCell p v with
  | some s => { c with st := s }
  | none => c.act p v

/-- The physical address of byte `k` of the colour RAM window (R68). -/
def colourWindow (k : BitVec 11) : Phys := 0x001F800#28 + k.setWidth 28

/-- The physical address of byte `k` of the colour RAM (R68). -/
def colourRam (k : BitVec 11) : Phys := 0xFF80000#28 + k.setWidth 28

/-- A read through the `$D800` window (R67, R68). -/
def Ctx.colourRead (k : BitVec 11) (c : Ctx) : Byte × Ctx := c.readCell (colourWindow k)

/-- A write through the `$D800` window is mirrored to both regions (R68). -/
def Ctx.colourWrite (k : BitVec 11) (v : Byte) (c : Ctx) : Ctx :=
  (c.writeCell (colourWindow k) v).writeCell (colourRam k) v

/-- The registers the CPU implements inside the I/O block, by offset (R73, R74). -/
inductive IoReg where
  /-- `$D640 + n`: SYSCALL register n, or `HREG[n]` in hypervisor mode (R42). -/
  | virt (n : BitVec 6)
  /-- `$D7FA` (R43). -/
  | speedBias
  /-- `$D030` (R44). -/
  | d030
  /-- `$D800` to `$DBFF`: the first 1 KB of the colour RAM (R68). -/
  | colour (k : BitVec 11)
  | device
  deriving DecidableEq, Repr

/-- Which register an offset of the I/O block is; the SYSCALL registers and `SPEEDBIAS` exist only in the I/O mode
`mega65` (R46). DESIGN CHOICE, unsafe: the VIC-III register `$D030` stands at offset `$030` in every I/O mode; R44, R46
and R73 do not say in which modes it appears (log entry 25). Log entry 15 for the colour RAM. -/
def State.ioReg (s : State) (off : BitVec 12) : IoReg :=
  if s.ioMode = ioMega65 ∧ off.extractLsb' 6 6 = 0x19#6 then .virt (off.extractLsb' 0 6)
  else if s.ioMode = ioMega65 ∧ off = 0x7FA#12 then .speedBias
  else if off = 0x030#12 then .d030
  else if off.extractLsb' 10 2 = 0x2#2 then .colour (off.extractLsb' 0 11)
  else .device

/-- The slots of `HREG` whose content is given: those of the layout, and the exit (R476). Log entry 8. -/
def State.hregStored (s : State) (n : BitVec 6) : Bool := s.cfg.hregLayout.slots.contains n || n == hregExit

/-- `HREG[n]`. -/
def State.hregAt (s : State) (n : BitVec 6) : Byte := s.hreg[n.toNat]'n.isLt

/-- `HREG[n] <- v`. -/
def State.setHreg (s : State) (n : BitVec 6) (v : Byte) : State :=
  { s with hreg := s.hreg.set n.toNat v n.isLt }

/-- A read of a SYSCALL or virtualisation register (R74): a fetch reads a platform answer and never traps (D32); in
hypervisor mode `HREG[n]`, or a platform answer where the slot's content is not given (U18); in normal mode any value,
with a SYSCALL if `SyscallOnRead`. -/
def Ctx.virtRead (acc : Access) (n : BitVec 6) (p : Phys) (c : Ctx) : Byte × Ctx :=
  if acc = .fetch then c.answer p
  else if c.st.hyper then (if c.st.hregStored n then (c.st.hregAt n, c) else c.answer p)
  else
    let (v, c) := c.answer p
    (v, if c.st.cfg.syscallOnRead then c.touch n else c)

/-- A write of a SYSCALL or virtualisation register (R74): in normal mode nothing is stored and the SYSCALL is raised;
in hypervisor mode `HREG[n]` is written, the platform acts where the slot's content is not given, and a write of
`$D67F` leaves hypervisor mode at the instruction's end (R480). -/
def Ctx.virtWrite (n : BitVec 6) (p : Phys) (v : Byte) (c : Ctx) : Ctx :=
  if c.st.hyper then
    let c := c.upd fun s => s.setHreg n v
    if n = hregExit then { c with leave := true }
    else if c.st.hregStored n then c
    else c.act p v
  else c.touch n

/-- A read inside the I/O block (R73). -/
def Ctx.ioRead (acc : Access) (off : BitVec 12) (p : Phys) (c : Ctx) : Byte × Ctx :=
  match c.st.ioReg off with
  | .virt n => c.virtRead acc n p
  | .speedBias => (c.st.speedBias, c)
  | .colour k => c.colourRead k
  | .d030 | .device => c.answer p

/-- A write inside the I/O block (R73); the copy of `$D030` follows every write that reaches it (R44). -/
def Ctx.ioWrite (off : BitVec 12) (p : Phys) (v : Byte) (c : Ctx) : Ctx :=
  match c.st.ioReg off with
  | .virt n => c.virtWrite n p v
  | .speedBias => c.upd fun s => { s with speedBias := v }
  | .colour k => c.colourWrite k v
  | .d030 => (c.upd fun s => { s with d030 := v }).act p v
  | .device => c.act p v

/-- `PhysRead(p)` (R10, R60). -/
def Ctx.physRead (acc : Access) (p : Phys) (c : Ctx) : Byte × Ctx :=
  match c.st.kindOf p with
  | .io off => c.ioRead acc off p
  | _ => c.readCell p

/-- `PhysWrite(p, v)` (R10, R60). A byte written at `$001F800 + k` itself is not mirrored to the colour RAM: R68 says only
that it "is not said to be mirrored". DESIGN CHOICE, log entry 15. -/
def Ctx.physWrite (p : Phys) (v : Byte) (c : Ctx) : Ctx :=
  match c.st.kindOf p with
  | .io off => c.ioWrite off p v
  | _ => c.writeCell p v

/-! ### Translation of a CPU-view address -/

/-- Where a CPU-view access goes (R66). -/
inductive Target where
  | phys (p : Phys)
  | portDdr
  | portData
  /-- Byte k of the colour RAM window under CRAM2K (R67, R68). -/
  | colour (k : BitVec 11)
  deriving DecidableEq, Repr

/-- The bank-select inputs of the CPU port: a bit configured as input reads as 1 (R41). -/
def State.portEff (s : State) : Byte := (s.portData &&& s.portDdr) ||| ~~~s.portDdr

/-- The address `base + (a - first)` of a banked range. -/
def banked (base : Phys) (first a : Word) : Phys := base + (a - first).setWidth 28

/-- VIC-III ROM banking (R67): for a read or fetch the six rows, CROM9 before CRAM2K (D10); for a write the CRAM2K row
only (D11). -/
def vicBanking (d030 : Byte) (acc : Access) (a : Word) : Option Target :=
  let n := a.toNat
  let rom := acc != .write
  if rom && d030.getLsbD 3 && 0x8000 ≤ n && n < 0xA000 then some (.phys (banked 0x0038000#28 0x8000#16 a))
  else if rom && d030.getLsbD 4 && 0xA000 ≤ n && n < 0xC000 then some (.phys (banked 0x003A000#28 0xA000#16 a))
  else if rom && d030.getLsbD 5 && 0xC000 ≤ n && n < 0xD000 then some (.phys (banked 0x002C000#28 0xC000#16 a))
  else if rom && d030.getLsbD 6 && 0xD000 ≤ n && n < 0xE000 then some (.phys (banked 0x0029000#28 0xD000#16 a))
  else if rom && d030.getLsbD 7 && 0xE000 ≤ n then some (.phys (banked 0x003E000#28 0xE000#16 a))
  else if d030.getLsbD 0 && 0xD800 ≤ n && n < 0xE000 then some (.colour (a.extractLsb' 0 11))
  else none

/-- MAP translation (R69): the block's half supplies the offset and the megabyte; the sum is truncated to 20 bits
(D12). -/
def MapRegs.translate (m : MapRegs) (a : Word) : Option Phys :=
  let blk := (a.extractLsb' 13 3).toNat
  if blk < 4 then
    if m.loEn.getLsbD blk then some (m.mbLo ++ (a.setWidth 20 + (m.loOff ++ 0x00#8))) else none
  else
    if m.hiEn.getLsbD (blk - 4) then some (m.mbHi ++ (a.setWidth 20 + (m.hiOff ++ 0x00#8))) else none

/-- C64-style banking (R70): BASIC, KERNAL and character ROM for reads, the I/O block for reads and writes, RAM beneath. -/
def State.c64Banking (s : State) (acc : Access) (a : Word) : Phys :=
  let n := a.toNat
  let loram := s.portEff.getLsbD 0
  let hiram := s.portEff.getLsbD 1
  let charen := s.portEff.getLsbD 2
  let rom := acc != .write
  if 0xD000 ≤ n && n < 0xE000 && (loram || hiram) && charen then banked s.ioBase 0xD000#16 a
  else if rom && 0xD000 ≤ n && n < 0xE000 && (loram || hiram) then banked 0x002D000#28 0xD000#16 a
  else if rom && 0xA000 ≤ n && n < 0xC000 && loram && hiram then banked 0x002A000#28 0xA000#16 a
  else if rom && 0xE000 ≤ n && hiram then banked 0x002E000#28 0xE000#16 a
  else a.setWidth 28

/-- `Translate(a, kind)` (R66): VIC-III ROM banking (skipped in hypervisor mode, D9), MAP, C64 banking, and the CPU port
at `$0000` and `$0001` (R41, D4). -/
def State.translate (s : State) (acc : Access) (a : Word) : Target :=
  match (if s.hyper then none else vicBanking s.d030 acc a) with
  | some t => t
  | none =>
    match s.map.translate a with
    | some p => .phys p
    | none =>
      if a = 0x0000#16 then .portDdr
      else if a = 0x0001#16 then .portData
      else .phys (s.c64Banking acc a)

/-- A data address: in the CPU view, or flat in the physical space (R76). -/
inductive Place where
  | cpu (a : Word)
  | flat (a : Quad)
  deriving DecidableEq, Repr

/-- The address of byte `i` of a datum: 16-bit wrap in the CPU view (R64), 32-bit (then 28-bit) flat (R76). -/
def Place.plus (pl : Place) (i : Nat) : Place :=
  match pl with
  | .cpu a => .cpu (a + BitVec.ofNat 16 i)
  | .flat a => .flat (a + BitVec.ofNat 32 i)

/-- Where an access to a data address goes; a flat address uses bits 27:0 and no translation (R76, D16). -/
def State.target (s : State) (acc : Access) (pl : Place) : Target :=
  match pl with
  | .cpu a => s.translate acc a
  | .flat a => .phys (a.setWidth 28)

/-! ### Byte, word and quad transactions -/

/-- One byte read. -/
def Ctx.readTarget (acc : Access) (t : Target) (c : Ctx) : Byte × Ctx :=
  match t with
  | .phys p => c.physRead acc p
  | .portDdr => (c.st.portDdr, c)
  | .portData => (c.st.portEff, c)
  | .colour k => c.colourRead k

/-- One byte written. DESIGN CHOICE, unsafe: a write that the CPU port takes at `$0000` or `$0001` changes the port register
alone; R41 and R66 do not say whether the RAM byte beneath is stored to as well, and here it is not (log entry 16). -/
def Ctx.writeTarget (t : Target) (v : Byte) (c : Ctx) : Ctx :=
  match t with
  | .phys p => c.physWrite p v
  | .portDdr => c.upd fun s => { s with portDdr := v }
  | .portData => c.upd fun s => { s with portData := v }
  | .colour k => c.colourWrite k v

/-- A data read of one byte: `MemRead(a, 1)` or `FarRead(a32, 1)` (R63, R76). -/
def Ctx.read8 (pl : Place) (c : Ctx) : Byte × Ctx := c.readTarget .read (c.st.target .read pl)

/-- A data write of one byte: `MemWrite(a, 1, v)` or `FarWrite(a32, 1, v)` (R63, R76). -/
def Ctx.write8 (pl : Place) (v : Byte) (c : Ctx) : Ctx := c.writeTarget (c.st.target .write pl) v

/-- Two bytes, the low one first (R62, R63). -/
def Ctx.read16 (pl : Place) (c : Ctx) : Word × Ctx :=
  let (lo, c) := c.read8 pl
  let (hi, c) := c.read8 (pl.plus 1)
  (hi ++ lo, c)

/-- Two bytes written in ascending order (R63). -/
def Ctx.write16 (pl : Place) (v : Word) (c : Ctx) : Ctx :=
  (c.write8 pl (v.extractLsb' 0 8)).write8 (pl.plus 1) (v.extractLsb' 8 8)

/-- Four bytes in ascending order, little-endian (R62, R63). -/
def Ctx.read32 (pl : Place) (c : Ctx) : Quad × Ctx :=
  let (b0, c) := c.read8 pl
  let (b1, c) := c.read8 (pl.plus 1)
  let (b2, c) := c.read8 (pl.plus 2)
  let (b3, c) := c.read8 (pl.plus 3)
  (b3 ++ b2 ++ b1 ++ b0, c)

/-- Four bytes written in ascending order (R63, R80). -/
def Ctx.write32 (pl : Place) (v : Quad) (c : Ctx) : Ctx :=
  (((c.write8 pl (v.extractLsb' 0 8)).write8 (pl.plus 1) (v.extractLsb' 8 8)).write8 (pl.plus 2)
    (v.extractLsb' 16 8)).write8 (pl.plus 3) (v.extractLsb' 24 8)

/-! ### Stack (R300) -/

/-- `Push8(v)`: the byte is written at SP, then SP moves down. -/
def Ctx.push8 (v : Byte) (c : Ctx) : Ctx :=
  (c.write8 (.cpu c.st.sp) v).upd fun s => s.moveSp 0xFFFF#16

/-- `Pull8()`: SP moves up, then the byte is read at SP. -/
def Ctx.pull8 (c : Ctx) : Byte × Ctx :=
  let c := c.upd fun s => s.moveSp 0x0001#16
  c.read8 (.cpu c.st.sp)

/-- `Push16(w)`: the high byte first, so the low byte ends at the lower address. -/
def Ctx.push16 (w : Word) (c : Ctx) : Ctx :=
  (c.push8 (w.extractLsb' 8 8)).push8 (w.extractLsb' 0 8)

/-- `Pull16()`: the low byte, then the high byte. -/
def Ctx.pull16 (c : Ctx) : Word × Ctx :=
  let (lo, c) := c.pull8
  let (hi, c) := c.pull8
  (hi ++ lo, c)

/-! ### Taking an exception: interrupts (R455) -/

/-- The vector of IRQ and BRK (R455, R458). -/
def vectorIrq : Word := 0xFFFE#16

/-- The vector of NMI (R455, R458). -/
def vectorNmi : Word := 0xFFFA#16

/-- The interrupt entry sequence shared by IRQ, NMI and BRK (R455): push the return address and P (with `brk` in the B
position), set I, clear D if `IntClearsD`, load PC from the vector. `Hyper` is not changed. -/
def Ctx.interrupt (vector ret : Word) (brk : Bool) (c : Ctx) : Ctx :=
  let c := c.push16 ret
  let c := c.push8 (c.st.fl.pack brk)
  let c := c.upd fun s => { s with fl := { s.fl with i := true, d := if s.cfg.intClearsD then false else s.fl.d } }
  let (target, c) := c.read16 (.cpu vector)
  c.upd fun s => { s with pc := target }

/-! ### Taking an exception: hypervisor traps (R470) and the return (R480) -/

/-- What trap entry saves in `HREG` (R470 step 2, R476). -/
inductive SavedItem where
  | a
  | x
  | y
  | z
  | b
  | spl
  | sph
  | p
  | pcLow
  | pcHigh
  | mapLo0
  | mapLo1
  | mapHi0
  | mapHi1
  | mbLo
  | mbHi
  | portDdr
  | portData
  | ioMode
  deriving DecidableEq, Repr

/-- The slot of a saved item in a layout (R476). Log entry 8. -/
def SavedItem.slot (l : HregLayout) : SavedItem → BitVec 6
  | .a => l.a
  | .x => l.x
  | .y => l.y
  | .z => l.z
  | .b => l.b
  | .spl => l.spl
  | .sph => l.sph
  | .p => l.p
  | .pcLow => l.pcLow
  | .pcHigh => l.pcHigh
  | .mapLo0 => l.mapLo0
  | .mapLo1 => l.mapLo1
  | .mapHi0 => l.mapHi0
  | .mapHi1 => l.mapHi1
  | .mbLo => l.mbLo
  | .mbHi => l.mbHi
  | .portDdr => l.portDdr
  | .portData => l.portData
  | .ioMode => l.ioMode

/-- The byte trap entry saves for an item (R476). -/
def SavedItem.value (s : State) : SavedItem → Byte
  | .a => s.a
  | .x => s.x
  | .y => s.y
  | .z => s.z
  | .b => s.b
  | .spl => s.spl
  | .sph => s.sph
  | .p => s.fl.pack s.cfg.trapBreakBit
  | .pcLow => s.pc.extractLsb' 0 8
  | .pcHigh => s.pc.extractLsb' 8 8
  | .mapLo0 => s.map.loOff.extractLsb' 0 8
  | .mapLo1 => s.map.loEn ++ s.map.loOff.extractLsb' 8 4
  | .mapHi0 => s.map.hiOff.extractLsb' 0 8
  | .mapHi1 => s.map.hiEn ++ s.map.hiOff.extractLsb' 8 4
  | .mbLo => s.map.mbLo
  | .mbHi => s.map.mbHi
  | .portDdr => s.portDdr
  | .portData => s.portData
  | .ioMode => s.ioMode

/-- All saved items. -/
def savedItems : List SavedItem :=
  [.a, .x, .y, .z, .b, .spl, .sph, .p, .pcLow, .pcHigh, .mapLo0, .mapLo1, .mapHi0, .mapHi1, .mbLo, .mbHi,
    .portDdr, .portData, .ioMode]

/-- `HREG` with the bytes of `items`, each in its slot (R476). -/
def State.savedHreg (s : State) (items : List SavedItem) : Vector Byte 64 :=
  items.foldl (fun h it => h.set (it.slot s.cfg.hregLayout).toNat (it.value s) (it.slot s.cfg.hregLayout).isLt) s.hreg

/-- Step 2 of trap entry: every CPU register is saved (R470). -/
def State.saveRegs (s : State) : State :=
  { s with hreg := s.savedHreg savedItems, savedMapInhibit := s.mapInhibit }

/-- The trap address `$8000 + 4·t` (R471). -/
def trapVector (t : BitVec 7) : Word := 0x8000#16 + (t.setWidth 16 <<< 2)

/-- The mapping registers trap entry sets (R472): blocks 4 and 5 reach the hypervisor memory, no lower block is mapped;
`MAPLO_OFF` and `MB_LO` are free values. -/
def State.trapMap (s : State) : MapRegs :=
  { loOff := Config.freeMapLoOff s.free
    loEn := 0x0#4
    hiOff := s.cfg.hyperBase.extractLsb' 8 12 - 0x080#12
    hiEn := 0x3#4
    mbLo := Config.freeMbLo s.free
    mbHi := s.cfg.hyperBase.extractLsb' 20 8 }

/-- Steps 3 and 4 of trap entry (R470, R472): the hypervisor's layout, flags, base page and stack; A, X, Y, Z and N, V,
Zf, C are preserved. -/
def State.enterHyper (t : BitVec 7) (s : State) : State :=
  { s with
    fl := { s.fl with d := false, i := true, e := true }
    b := 0xBF#8
    sph := 0xBE#8
    spl := 0xFF#8
    map := s.trapMap
    mapInhibit := false
    portDdr := s.cfg.hyperPortDdr
    portData := s.cfg.hyperPortData
    ioMode := ioMega65
    hyper := true
    pc := trapVector t
    free := s.free + 1
    atEntry := true }

/-- `TrapEnter(t)` (R470). -/
def State.trapEnter (t : BitVec 7) (s : State) : State := s.saveRegs.enterHyper t

/-- The saved byte of an item. -/
def State.saved (s : State) (it : SavedItem) : Byte := s.hregAt (it.slot s.cfg.hregLayout)

/-- `TrapReturn` (R480): every register is loaded from `HREG` as it stands, and hypervisor mode is left. -/
def State.trapReturn (s : State) : State :=
  { s with
    a := s.saved .a
    x := s.saved .x
    y := s.saved .y
    z := s.saved .z
    b := s.saved .b
    spl := s.saved .spl
    sph := s.saved .sph
    fl := Flags.ofSaved (s.saved .p)
    pc := s.saved .pcHigh ++ s.saved .pcLow
    map :=
      { loOff := (s.saved .mapLo1).extractLsb' 0 4 ++ s.saved .mapLo0
        loEn := (s.saved .mapLo1).extractLsb' 4 4
        hiOff := (s.saved .mapHi1).extractLsb' 0 4 ++ s.saved .mapHi0
        hiEn := (s.saved .mapHi1).extractLsb' 4 4
        mbLo := s.saved .mbLo
        mbHi := s.saved .mbHi }
    portDdr := s.saved .portDdr
    portData := s.saved .portData
    ioMode := s.saved .ioMode
    mapInhibit := s.savedMapInhibit
    hyper := false }

/-- The end of an instruction: after a write of `$D67F` in hypervisor mode the machine returns (R480). -/
def Ctx.finish (c : Ctx) : State := if c.leave then c.st.trapReturn else c.st

/-- The outcome of an instruction that completes. -/
def Ctx.done (c : Ctx) : Host.Outcome State Fault Refusal := .next c.finish

/-! ### Events at an instruction boundary -/

/-- The trap number of reset (R471). -/
def trapReset : BitVec 7 := 0x40#7

/-- A reset event: trap `$40` in either mode, with `SPEEDBIAS` at its default (R479, R49). Log entries 14, 21. -/
def State.takeReset (s : State) : State :=
  { s with speedBias := 0x80#8, resetLine := false, syscall := none }.trapEnter trapReset

/-- The SYSCALL trap: trap number `t = n` (R461, R471). -/
def State.takeSyscall (n : BitVec 6) (s : State) : State :=
  { s with syscall := none }.trapEnter (n.setWidth 7)

/-- A platform trap (R459, R460). -/
def State.takeTrap (t : BitVec 7) (s : State) : State :=
  { s with trapRequest := none }.trapEnter t

/-- IRQ entry (R455, R456). -/
def State.takeIrq (s : State) : State :=
  ((Ctx.of { s with atEntry := true }).interrupt vectorIrq s.pc false).finish

/-- NMI entry (R455, R457). -/
def State.takeNmi (s : State) : State :=
  ((Ctx.of { s with atEntry := true, nmiPending := false }).interrupt vectorNmi s.pc false).finish

/-- An event that may be taken at a boundary. -/
inductive Event where
  | reset
  | syscall (n : BitVec 6)
  | trap (t : BitVec 7)
  | nmi
  | irq
  deriving DecidableEq, Repr

/-- NMI before IRQ (R459); both wait from MAP to EOM (R454), and IRQ needs I = 0 (R456). -/
def State.interruptEvent (s : State) : Option Event :=
  if s.mapInhibit then none
  else if s.nmiPending then some .nmi
  else if s.irqLine && !s.fl.i then some .irq
  else none

/-- The event to take, by priority (R459): reset in either mode; then, all only in normal mode (R453, R478), the SYSCALL
of the instruction just completed, a platform trap, an interrupt. -/
def State.event (s : State) : Option Event :=
  if s.resetLine then some .reset
  else if s.hyper then none
  else match s.syscall, s.trapRequest with
    | some n, _ => some (.syscall n)
    | none, some t => some (.trap t)
    | none, none => s.interruptEvent

/-- Take an event. -/
def State.take (e : Event) (s : State) : State :=
  match e with
  | .reset => s.takeReset
  | .syscall n => s.takeSyscall n
  | .trap t => s.takeTrap t
  | .nmi => s.takeNmi
  | .irq => s.takeIrq

/-- A byte stored where a write reaches memory: RAM, ROM by `RomWritable` (R71), the hypervisor memory in hypervisor mode
(R72). -/
def State.putCell (p : Phys) (v : Byte) (s : State) : State := (s.writeCell p v).getD s

/-- A byte of a DMA job at an offset of the I/O block (R86 "any device"): it reaches the register the CPU implements
there, through the `$D800` window both colour RAM regions; other devices are the platform's. The DMA agent is no
instruction, so it raises no SYSCALL, and at `$D67F` it stores the byte and does not return (R461, R480). The spec does
not say what DMA does to these registers: DESIGN CHOICE, log entry 11. -/
def State.dmaIo (off : BitVec 12) (v : Byte) (s : State) : State :=
  match s.ioReg off with
  | .virt n => if s.hyper then s.setHreg n v else s
  | .speedBias => { s with speedBias := v }
  | .d030 => { s with d030 := v }
  | .colour k => (s.putCell (colourWindow k) v).putCell (colourRam k) v
  | .device => s

/-- One byte of a DMA job, at any physical address (R86, R13). Log entry 11. -/
def State.dmaWrite (s : State) (pv : Phys × Byte) : State :=
  match s.kindOf pv.1 with
  | .io off => s.dmaIo off pv.2
  | _ => s.putCell pv.1 pv.2

/-- The platform acts between two instructions: the head of `inputs`. Log entry 11. -/
def State.accept (s : State) : State :=
  match s.inputs with
  | [] => s
  | i :: rest =>
    let s := i.dma.foldl State.dmaWrite { s with inputs := rest }
    { s with
      irqLine := i.irq.getD s.irqLine
      nmiPending := s.nmiPending || i.nmiEdge
      resetLine := s.resetLine || i.reset
      trapRequest := i.trap.or s.trapRequest
      d030 := i.d030.getD s.d030
      ioMode := i.ioMode.getD s.ioMode }

end Sys2Proof.Machine
end

