-- ==== Sys2Proof/Machine/Operands.lean ====
section
/-! DEFINITION. Every operand form (`40_addressing_modes.md` R140 to R179): effective addresses, pointers, immediate
operands, branch and jump targets, branch conditions. -/

namespace Sys2Proof.Machine

/-! ### Data addresses -/

/-- The addressing modes that give a data address. A Q instruction uses the quad variant of the named mode, which has
the same address and four data bytes (R139). -/
inductive MemMode where
  /-- `bp`, Base Page (R145, R146). -/
  | bp (nn : Byte)
  /-- `bp,X` (R147, R148, D23). -/
  | bpX (nn : Byte)
  /-- `bp,Y` (R149, D23). -/
  | bpY (nn : Byte)
  /-- `abs`, Absolute (R153, R154). -/
  | abs (a : Word)
  /-- `abs,X` (R155, R156). -/
  | absX (a : Word)
  /-- `abs,Y` (R157). -/
  | absY (a : Word)
  /-- `(bp,X)` (R163, D23). -/
  | bpXInd (nn : Byte)
  /-- `(bp),Y` (R165). -/
  | bpIndY (nn : Byte)
  /-- `(bp),Z` (R167), and the quad form of LDQ, which adds Z (R168). -/
  | bpIndZ (nn : Byte)
  /-- `(bp)`: the quad form of every Q instruction but LDQ, Z not added (R168). -/
  | bpInd (nn : Byte)
  /-- `[bp],Z` (R169), and the quad form of LDQ, which adds Z (R170). -/
  | farZ (nn : Byte)
  /-- `[bp]`: the quad form of every Q instruction but LDQ, Z not added (R170). -/
  | far (nn : Byte)
  /-- `(d,SP),Y` (R171). -/
  | spIndY (nn : Byte)
  deriving DecidableEq, Repr

/-- An address in the base page: `B ‖ off` (R145). -/
def State.bpAddr (s : State) (off : Byte) : Word := s.b ++ off

/-- The 16-bit pointer at base-page offset `nn`; its bytes wrap inside the base page (R163, R165, R167, R177, D26). -/
def Ctx.pointer16 (nn : Byte) (c : Ctx) : Word × Ctx :=
  let (lo, c) := c.read8 (.cpu (c.st.bpAddr nn))
  let (hi, c) := c.read8 (.cpu (c.st.bpAddr (nn + 0x01#8)))
  (hi ++ lo, c)

/-- The 32-bit pointer at base-page offset `nn`; its bytes wrap inside the base page (R169, R177, D26). -/
def Ctx.pointer32 (nn : Byte) (c : Ctx) : Quad × Ctx :=
  let (b0, c) := c.read8 (.cpu (c.st.bpAddr nn))
  let (b1, c) := c.read8 (.cpu (c.st.bpAddr (nn + 0x01#8)))
  let (b2, c) := c.read8 (.cpu (c.st.bpAddr (nn + 0x02#8)))
  let (b3, c) := c.read8 (.cpu (c.st.bpAddr (nn + 0x03#8)))
  (b3 ++ b2 ++ b1 ++ b0, c)

/-- The effective address of a mode. Index registers are zero-extended (R178); sums wrap at 8 bits in the base page
(R147), at 16 bits in the CPU view (R155, R171), at 32 bits for a flat pointer (R169). -/
def Ctx.ea (m : MemMode) (c : Ctx) : Place × Ctx :=
  match m with
  | .bp nn => (.cpu (c.st.bpAddr nn), c)
  | .bpX nn => (.cpu (c.st.bpAddr (nn + c.st.x)), c)
  | .bpY nn => (.cpu (c.st.bpAddr (nn + c.st.y)), c)
  | .abs a => (.cpu a, c)
  | .absX a => (.cpu (a + c.st.x.setWidth 16), c)
  | .absY a => (.cpu (a + c.st.y.setWidth 16), c)
  | .bpXInd nn =>
    let (p, c) := c.pointer16 (nn + c.st.x)
    (.cpu p, c)
  | .bpIndY nn =>
    let (p, c) := c.pointer16 nn
    (.cpu (p + c.st.y.setWidth 16), c)
  | .bpIndZ nn =>
    let (p, c) := c.pointer16 nn
    (.cpu (p + c.st.z.setWidth 16), c)
  | .bpInd nn =>
    let (p, c) := c.pointer16 nn
    (.cpu p, c)
  | .farZ nn =>
    let (p, c) := c.pointer32 nn
    (.flat (p + c.st.z.setWidth 32), c)
  | .far nn =>
    let (p, c) := c.pointer32 nn
    (.flat p, c)
  | .spIndY nn =>
    let (p, c) := c.read16 (.cpu (c.st.sp + nn.setWidth 16))
    (.cpu (p + c.st.y.setWidth 16), c)

/-! ### 8-bit operands -/

/-- An operand that an 8-bit instruction reads: an immediate byte (R143), or a byte of memory. -/
inductive Source where
  | imm (v : Byte)
  | mem (m : MemMode)
  deriving DecidableEq, Repr

/-- The operand's value. -/
def Ctx.operand (src : Source) (c : Ctx) : Byte × Ctx :=
  match src with
  | .imm v => (v, c)
  | .mem m =>
    let (pl, c) := c.ea m
    c.read8 pl

/-! ### Branches and jumps -/

/-- The branch conditions (R401 to R409). -/
inductive Cond where
  | pl
  | mi
  | vc
  | vs
  | cc
  | cs
  | ne
  | eq
  | always
  deriving DecidableEq, Repr

/-- Whether a condition holds (R401 to R409). -/
def Cond.holds (k : Cond) (fl : Flags) : Bool :=
  match k with
  | .pl => !fl.n
  | .mi => fl.n
  | .vc => !fl.v
  | .vs => fl.v
  | .cc => !fl.c
  | .cs => fl.c
  | .ne => !fl.z
  | .eq => fl.z
  | .always => true

/-- The target of a short branch, from the address of the next instruction (R172, R174). -/
def shortTarget (next : Word) (d : Byte) : Word := next + d.signExtend 16

/-- `RelWordBase` as an offset from the opcode byte (R173, D24). -/
def RelWordBase.offset (k : RelWordBase) : Word :=
  match k with
  | .two => 0x0002#16
  | .three => 0x0003#16

/-- The target of a word branch, from the address of the opcode byte (R173). -/
def State.wordTarget (s : State) (d : Word) : Word := s.pc + RelWordBase.offset s.cfg.relWordBase + d

/-- The operand of a jump or call (R153, R161, R162). -/
inductive JumpTarget where
  | abs (a : Word)
  | ind (a : Word)
  | indX (a : Word)
  deriving DecidableEq, Repr

/-- The jump destination; a pointer's high byte is at the next address with full 16-bit carry (R161, R162). -/
def Ctx.jumpTarget (t : JumpTarget) (c : Ctx) : Word × Ctx :=
  match t with
  | .abs a => (a, c)
  | .ind a => c.read16 (.cpu a)
  | .indX a => c.read16 (.cpu (a + c.st.x.setWidth 16))

end Sys2Proof.Machine
end

