-- ==== Sys2Proof/Machine/Actions.lean ====
section
/-! DEFINITION. The shared operations that the instructions' meanings are instances of: each takes the operands, the
instruction's length and the state, and answers the step's outcome (files 41 to 48 of the spec). -/

namespace Sys2Proof.Machine

/-- What a step answers. -/
abbrev Result := Host.Outcome State Fault Refusal

/-! ### Loads, stores, transfers, stack (`46_base_load_store_transfer.md`) -/

/-- Write a register and set N and Zf from the value: `r <- v; SetNZ(v)`. -/
def State.setRegNZ (s : State) (r : Reg) (v : Byte) : State :=
  { s.setReg r v with fl := s.fl.nz v }

/-- `r <- M; SetNZ(M)` (R280 to R283, R240). -/
def State.load (r : Reg) (src : Source) (len : Nat) (s : State) : Result :=
  let (v, c) := (Ctx.start len s).operand src
  (c.upd fun s => s.setRegNZ r v).done

/-- `MemWrite(ea, 1, r)`; no flags (R284 to R287, R241). -/
def State.store (r : Reg) (m : MemMode) (len : Nat) (s : State) : Result :=
  let (pl, c) := (Ctx.start len s).ea m
  (c.write8 pl (c.st.reg r)).done

/-- `dst <- src; SetNZ(src)` (R288 to R295, R297). -/
def State.transferNZ (dst src : Reg) (len : Nat) (s : State) : Result :=
  ((Ctx.start len s).upd fun s => s.setRegNZ dst (s.reg src)).done

/-- `dst <- src`; no flags (R296, R298, R299). -/
def State.transfer (dst src : Reg) (len : Nat) (s : State) : Result :=
  ((Ctx.start len s).upd fun s => s.setReg dst (s.reg src)).done

/-- `Push8(r)`; no flags (R301 to R304). -/
def State.push (r : Reg) (len : Nat) (s : State) : Result :=
  ((Ctx.start len s).push8 (s.reg r)).done

/-- `Push8(N ‖ V ‖ E ‖ 1 ‖ D ‖ I ‖ Zf ‖ C)` (R305). -/
def State.pushFlags (len : Nat) (s : State) : Result :=
  ((Ctx.start len s).push8 (s.fl.pack true)).done

/-- `Push16(w)`; no flags (R309). -/
def State.pushWord (w : Word) (len : Nat) (s : State) : Result :=
  ((Ctx.start len s).push16 w).done

/-- `w <- MemRead(a, 2); Push16(w)`; no flags (R309). -/
def State.pushWordAt (a : Word) (len : Nat) (s : State) : Result :=
  let (w, c) := (Ctx.start len s).read16 (.cpu a)
  (c.push16 w).done

/-- `r <- Pull8(); SetNZ(r)` (R306 to R308, R310). -/
def State.pull (r : Reg) (len : Nat) (s : State) : Result :=
  let (v, c) := (Ctx.start len s).pull8
  (c.upd fun s => s.setRegNZ r v).done

/-- Pull P: E and B are not loaded (R311). -/
def State.pullFlags (len : Nat) (s : State) : Result :=
  let (v, c) := (Ctx.start len s).pull8
  (c.upd fun s => { s with fl := s.fl.pulled v }).done

/-! ### Arithmetic, logic, comparison, bit test (`47_base_alu.md`, `42_q_arith_logic.md`) -/

/-- The operations with a register result. -/
inductive AluOp where
  | adc
  | sbc
  | and
  | ora
  | eor
  deriving DecidableEq, Repr

/-- The 8-bit operation on A (R340, R341, R343 to R345). -/
def AluOp.run8 (op : AluOp) (m : Byte) (s : State) : State :=
  match op with
  | .adc => s.adc m
  | .sbc => s.sbc m
  | .and => s.setRegNZ .a (s.a &&& m)
  | .ora => s.setRegNZ .a (s.a ||| m)
  | .eor => s.setRegNZ .a (s.a ^^^ m)

/-- Write Q and the flags. -/
def State.setQFlags (s : State) (v : Quad) (fl : Flags) : State :=
  { s.setQ v with fl := fl }

/-- The 32-bit operation on Q, binary (R200, R201, R203 to R205). -/
def AluOp.run32 (op : AluOp) (m : Quad) (s : State) : State :=
  match op with
  | .adc => s.setQFlags (addWithCarry s.q m s.fl.c).r (s.fl.ofSum (addWithCarry s.q m s.fl.c))
  | .sbc => s.setQFlags (subWithCarry s.q m s.fl.c).r (s.fl.ofSum (subWithCarry s.q m s.fl.c))
  | .and => s.setQFlags (s.q &&& m) (s.fl.nz (s.q &&& m))
  | .ora => s.setQFlags (s.q ||| m) (s.fl.nz (s.q ||| m))
  | .eor => s.setQFlags (s.q ^^^ m) (s.fl.nz (s.q ^^^ m))

/-- Why the 32-bit operation has no meaning with D = 1: ADCQ "undefined" (R200, U1), SBCQ "reserved" (R201, U2). -/
def AluOp.decimalStop (op : AluOp) : Option Refusal :=
  match op with
  | .adc => some .adcqDecimal
  | .sbc => some .sbcqDecimal
  | .and | .ora | .eor => none

/-- ADC, SBC, AND, ORA, EOR on A (R340 to R345, R242, R243, R245 to R247). -/
def State.alu (op : AluOp) (src : Source) (len : Nat) (s : State) : Result :=
  let (v, c) := (Ctx.start len s).operand src
  (c.upd (op.run8 v)).done

/-- Compare a register with the operand (R342, R346 to R348, R244). -/
def State.compare (r : Reg) (src : Source) (len : Nat) (s : State) : Result :=
  let (v, c) := (Ctx.start len s).operand src
  (c.upd fun s => { s with fl := s.fl.compare (s.reg r) v }).done

/-- BIT with a byte of memory (R349). -/
def State.bit (m : MemMode) (len : Nat) (s : State) : Result :=
  let (v, c) := (Ctx.start len s).operand (.mem m)
  (c.upd fun s => { s with fl := s.fl.bitTest s.a v }).done

/-- BIT with an immediate byte: N and V follow it if `BitImmSetsNV` (R349, D29). -/
def State.bitImm (v : Byte) (len : Nat) (s : State) : Result :=
  ((Ctx.start len s).upd fun s =>
    { s with fl := if s.cfg.bitImmSetsNV then s.fl.bitTest s.a v else s.fl.bitTestZ s.a v }).done

/-- ADCQ, SBCQ, ANDQ, ORQ, EORQ (R200, R201, R203 to R205). -/
def State.aluQ (op : AluOp) (m : MemMode) (len : Nat) (s : State) : Result :=
  match (if s.fl.d then op.decimalStop else none) with
  | some why => .refused why
  | none =>
    let (pl, c) := (Ctx.start len s).ea m
    let (v, c) := c.read32 pl
    (c.upd (op.run32 v)).done

/-- CMPQ (R202). -/
def State.compareQ (m : MemMode) (len : Nat) (s : State) : Result :=
  let (pl, c) := (Ctx.start len s).ea m
  let (v, c) := c.read32 pl
  (c.upd fun s => { s with fl := s.fl.compare s.q v }).done

/-- BITQ (R206). -/
def State.bitQ (m : MemMode) (len : Nat) (s : State) : Result :=
  let (pl, c) := (Ctx.start len s).ea m
  let (v, c) := c.read32 pl
  (c.upd fun s => { s with fl := s.fl.bitTest s.q v }).done

/-- NEG: `A <- 0 - A; SetNZ(A)` (R262). -/
def State.negate (len : Nat) (s : State) : Result :=
  ((Ctx.start len s).upd fun s => s.setRegNZ .a (0x00#8 - s.a)).done

/-! ### LDQ and STQ (`41_q_load_store.md`) -/

/-- `Q <- MemRead(ea, 4)`, the address computed with the registers before the load; N and Zf of all 32 bits (R190). -/
def State.loadQ (m : MemMode) (len : Nat) (s : State) : Result :=
  let (pl, c) := (Ctx.start len s).ea m
  let (v, c) := c.read32 pl
  (c.upd fun s => s.setQFlags v (s.fl.nz v)).done

/-- `MemWrite(ea, 4, Q)`; no flags (R191). -/
def State.storeQ (m : MemMode) (len : Nat) (s : State) : Result :=
  let (pl, c) := (Ctx.start len s).ea m
  (c.write32 pl c.st.q).done

/-! ### Shifts, increments, decrements, bit operations (`47_base_alu.md`, `43_q_shift_incdec.md`) -/

/-- The operations that replace a value by one computed from it, at any width. -/
inductive Change where
  | shift (op : ShiftOp)
  | step (up : Bool)
  deriving DecidableEq, Repr

/-- The new value and flags. -/
def Change.apply {w : Nat} (ch : Change) (fl : Flags) (v : BitVec w) : BitVec w × Flags :=
  match ch with
  | .shift op => shiftResult op fl v
  | .step up => stepResult up fl v

/-- The bit operations on memory. -/
inductive BitOp where
  | tsb
  | trb
  | rmb (n : Fin 8)
  | smb (n : Fin 8)
  deriving DecidableEq, Repr

/-- The new value and flags: TSB and TRB set only Zf, RMBn and SMBn no flag (R372 to R375). -/
def BitOp.apply (op : BitOp) (a : Byte) (fl : Flags) (v : Byte) : Byte × Flags :=
  match op with
  | .tsb => (v ||| a, { fl with z := (a &&& v) == 0x00#8 })
  | .trb => (v &&& ~~~a, { fl with z := (a &&& v) == 0x00#8 })
  | .rmb n => (v &&& ~~~(0x01#8 <<< n.val), fl)
  | .smb n => (v ||| (0x01#8 <<< n.val), fl)

/-- Whether the dummy write is made for every configuration (INC, DEC, ASL, LSR, ROL, ROR) or only by
`Rmw65ce02DummyWrite` (R79, R358, D17). -/
def Change.always (ch : Change) : Bool := ch != .shift .asr

/-- The dummy-write condition: the CPU-view address is `$D019` (R79, R358, D17). -/
def State.dummyWrite (s : State) (always : Bool) (pl : Place) : Bool :=
  pl == .cpu 0xD019#16 && (always || s.cfg.rmw65ce02DummyWrite)

/-- The dummy write: the byte read is written back unchanged if the condition holds (R79, R358). -/
def Ctx.writeBack (always : Bool) (pl : Place) (v : Byte) (c : Ctx) : Ctx :=
  if c.st.dummyWrite always pl then c.write8 pl v else c

/-- Read one byte, write it back unchanged if the dummy-write condition holds, write the new byte (R358, R79). -/
def State.rmw8 (always : Bool) (f : State → Byte → Byte × Flags) (m : MemMode) (len : Nat) (s : State) : Result :=
  let (pl, c) := (Ctx.start len s).ea m
  let (v, c) := c.read8 pl
  let c := c.writeBack always pl v
  let (r, fl) := f c.st v
  ((c.upd fun s => { s with fl := fl }).write8 pl r).done

/-- ASL, LSR, ROL, ROR, ASR, INC, DEC of a register (R351 to R355, R361, R363 to R369). -/
def State.changeReg (ch : Change) (r : Reg) (len : Nat) (s : State) : Result :=
  ((Ctx.start len s).upd fun s =>
    { s.setReg r (ch.apply s.fl (s.reg r)).1 with fl := (ch.apply s.fl (s.reg r)).2 }).done

/-- ASL, LSR, ROL, ROR, ASR, INC, DEC of a byte of memory (R351 to R355, R360, R362). -/
def State.changeMem (ch : Change) (m : MemMode) (len : Nat) (s : State) : Result :=
  s.rmw8 ch.always (fun s v => ch.apply s.fl v) m len

/-- TSB, TRB, RMBn, SMBn (R372 to R375). -/
def State.bitMem (op : BitOp) (m : MemMode) (len : Nat) (s : State) : Result :=
  s.rmw8 false (fun s v => op.apply s.a s.fl v) m len

/-- INW, DEW, ASW, ROW: two bytes read, the first one written back unchanged if the dummy-write condition holds, two
bytes written (R356 to R358, R370, R371). -/
def State.changeWord (ch : Change) (m : MemMode) (len : Nat) (s : State) : Result :=
  let (pl, c) := (Ctx.start len s).ea m
  let (v, c) := c.read16 pl
  let c := c.writeBack false pl (v.extractLsb' 0 8)
  let (r, fl) := ch.apply c.st.fl v
  ((c.upd fun s => { s with fl := fl }).write16 pl r).done

/-- ASLQ, ASRQ, LSRQ, ROLQ, RORQ, INQ, DEQ of Q (R220 to R226). -/
def State.changeQ (ch : Change) (len : Nat) (s : State) : Result :=
  ((Ctx.start len s).upd fun s => s.setQFlags (ch.apply s.fl s.q).1 (ch.apply s.fl s.q).2).done

/-- ASLQ, ASRQ, LSRQ, ROLQ, RORQ, INQ, DEQ of memory: four reads, then four writes, no dummy write; Q is unchanged
(R220 to R226, R80). -/
def State.changeMemQ (ch : Change) (m : MemMode) (len : Nat) (s : State) : Result :=
  let (pl, c) := (Ctx.start len s).ea m
  let (v, c) := c.read32 pl
  let (r, fl) := ch.apply c.st.fl v
  ((c.upd fun s => { s with fl := fl }).write32 pl r).done

/-! ### Control flow (`48_base_control.md`) -/

/-- Set PC. -/
def State.goto (s : State) (a : Word) : State := { s with pc := a }

/-- A short branch (R400, R172). -/
def State.branch (k : Cond) (d : Byte) (len : Nat) (s : State) : Result :=
  ((Ctx.start len s).upd fun s => if k.holds s.fl then s.goto (shortTarget s.pc d) else s).done

/-- A word branch (R400, R173). -/
def State.branchWord (k : Cond) (d : Word) (len : Nat) (s : State) : Result :=
  ((Ctx.start len s).upd fun t => if k.holds t.fl then t.goto (s.wordTarget d) else t).done

/-- `Push16(PCop + 2); PC <- target` (R410). -/
def State.branchSub (d : Word) (len : Nat) (s : State) : Result :=
  (((Ctx.start len s).push16 (s.pc + 0x0002#16)).upd fun t => t.goto (s.wordTarget d)).done

/-- BBRn (`on` false) and BBSn (`on` true): branch on a bit of a base-page byte (R415, R174). -/
def State.branchBit (on : Bool) (n : Fin 8) (nn d : Byte) (len : Nat) (s : State) : Result :=
  let (v, c) := (Ctx.start len s).operand (.mem (.bp nn))
  (c.upd fun s => if v.getLsbD n.val == on then s.goto (shortTarget s.pc d) else s).done

/-- JMP (R420 to R422). -/
def State.jump (t : JumpTarget) (len : Nat) (s : State) : Result :=
  let (a, c) := (Ctx.start len s).jumpTarget t
  (c.upd fun s => s.goto a).done

/-- JSR: `Push16(PCop + 2)`, then PC from the target (R423 to R425). -/
def State.call (t : JumpTarget) (len : Nat) (s : State) : Result :=
  let (a, c) := ((Ctx.start len s).push16 (s.pc + 0x0002#16)).jumpTarget t
  (c.upd fun s => s.goto a).done

/-- RTS and RTS #n: `PC <- Pull16() + 1`, then SP moves up by `n` (R426, R427, D31). -/
def State.ret (n : Byte) (len : Nat) (s : State) : Result :=
  let (a, c) := (Ctx.start len s).pull16
  (c.upd fun s => (s.goto (a + 0x0001#16)).moveSp (n.setWidth 16)).done

/-- RTI: P, then PC, with no addition; hypervisor mode is not left (R428). -/
def State.retInterrupt (len : Nat) (s : State) : Result :=
  let (v, c) := (Ctx.start len s).pull8
  let (a, c) := (c.upd fun s => { s with fl := s.fl.pulled v }).pull16
  (c.upd fun s => s.goto a).done

/-- BRK: the interrupt entry sequence with `PCop + 2` and B = 1, through `$FFFE`, in either mode (R429, R455). -/
def State.brk (len : Nat) (s : State) : Result :=
  ((Ctx.start len s).interrupt vectorIrq (s.pc + 0x0002#16) true).done

/-- The flag instructions (R430 to R438). -/
inductive FlagOp where
  | clc
  | sec
  | cli
  | sei
  | cld
  | sed
  | clv
  | cle
  | see
  deriving DecidableEq, Repr

/-- The one flag each changes (R430 to R438). -/
def FlagOp.apply (op : FlagOp) (fl : Flags) : Flags :=
  match op with
  | .clc => { fl with c := false }
  | .sec => { fl with c := true }
  | .cli => { fl with i := false }
  | .sei => { fl with i := true }
  | .cld => { fl with d := false }
  | .sed => { fl with d := true }
  | .clv => { fl with v := false }
  | .cle => { fl with e := false }
  | .see => { fl with e := true }

/-- A flag instruction. -/
def State.flag (op : FlagOp) (len : Nat) (s : State) : Result :=
  ((Ctx.start len s).upd fun s => { s with fl := op.apply s.fl }).done

/-! ### MAP and EOM (`45_map_prefix_system.md`) -/

/-- The mapping registers MAP loads from A, X, Y, Z; `$0F` in X or Z also sets that half's megabyte (R260). -/
def State.mapped (s : State) : MapRegs :=
  { loOff := s.x.extractLsb' 0 4 ++ s.a
    loEn := s.x.extractLsb' 4 4
    hiOff := s.z.extractLsb' 0 4 ++ s.y
    hiEn := s.z.extractLsb' 4 4
    mbLo := if s.x = 0x0F#8 then s.a else s.map.mbLo
    mbHi := if s.z = 0x0F#8 then s.y else s.map.mbHi }

/-- MAP: the mapping registers, and `MapInhibit <- 1` (R260, R39). -/
def State.loadMap (len : Nat) (s : State) : Result :=
  ((Ctx.start len s).upd fun s => { s with map := s.mapped, mapInhibit := true }).done

/-- EOM: `MapInhibit <- 0` (R261, R439). -/
def State.endMap (len : Nat) (s : State) : Result :=
  ((Ctx.start len s).upd fun s => { s with mapInhibit := false }).done

/-! ### The reserved Q encodings (`44_far_indirect.md`) -/

/-- RESQ and RSVQ have no meaning in the spec (R248, R249, U3). -/
def State.reserved (_ : State) : Result := .refused .reservedEncoding

end Sys2Proof.Machine
end

