-- ==== Sys2Proof/Machine/Arith.lean ====
section
/-! DEFINITION. Arithmetic, logic, comparison and bit test (`47_base_alu.md` R340 to R350), and NEG (`45_map_prefix_system.md` R262). -/

namespace Sys2Proof.Machine

/-- ORA (bp,X): `01` (R344). -/
def execOraBpXInd (nn : Byte) (s : State) : Result := s.alu .ora (.mem (.bpXInd nn)) 2

/-- ORA bp: `05` (R344). -/
def execOraBp (nn : Byte) (s : State) : Result := s.alu .ora (.mem (.bp nn)) 2

/-- ORA #: `09` (R344). -/
def execOraImm (v : Byte) (s : State) : Result := s.alu .ora (.imm v) 2

/-- ORA abs: `0D` (R344). -/
def execOraAbs (a : Word) (s : State) : Result := s.alu .ora (.mem (.abs a)) 3

/-- ORA (bp),Y: `11` (R344). -/
def execOraBpIndY (nn : Byte) (s : State) : Result := s.alu .ora (.mem (.bpIndY nn)) 2

/-- ORA (bp),Z: `12` (R344). -/
def execOraBpIndZ (nn : Byte) (s : State) : Result := s.alu .ora (.mem (.bpIndZ nn)) 2

/-- ORA bp,X: `15` (R344). -/
def execOraBpX (nn : Byte) (s : State) : Result := s.alu .ora (.mem (.bpX nn)) 2

/-- ORA abs,Y: `19` (R344). -/
def execOraAbsY (a : Word) (s : State) : Result := s.alu .ora (.mem (.absY a)) 3

/-- ORA abs,X: `1D` (R344). -/
def execOraAbsX (a : Word) (s : State) : Result := s.alu .ora (.mem (.absX a)) 3

/-- AND (bp,X): `21` (R343). -/
def execAndBpXInd (nn : Byte) (s : State) : Result := s.alu .and (.mem (.bpXInd nn)) 2

/-- BIT bp: `24` (R349). -/
def execBitBp (nn : Byte) (s : State) : Result := s.bit (.bp nn) 2

/-- AND bp: `25` (R343). -/
def execAndBp (nn : Byte) (s : State) : Result := s.alu .and (.mem (.bp nn)) 2

/-- AND #: `29` (R343). -/
def execAndImm (v : Byte) (s : State) : Result := s.alu .and (.imm v) 2

/-- BIT abs: `2C` (R349). -/
def execBitAbs (a : Word) (s : State) : Result := s.bit (.abs a) 3

/-- AND abs: `2D` (R343). -/
def execAndAbs (a : Word) (s : State) : Result := s.alu .and (.mem (.abs a)) 3

/-- AND (bp),Y: `31` (R343). -/
def execAndBpIndY (nn : Byte) (s : State) : Result := s.alu .and (.mem (.bpIndY nn)) 2

/-- AND (bp),Z: `32` (R343). -/
def execAndBpIndZ (nn : Byte) (s : State) : Result := s.alu .and (.mem (.bpIndZ nn)) 2

/-- BIT bp,X: `34` (R349). -/
def execBitBpX (nn : Byte) (s : State) : Result := s.bit (.bpX nn) 2

/-- AND bp,X: `35` (R343). -/
def execAndBpX (nn : Byte) (s : State) : Result := s.alu .and (.mem (.bpX nn)) 2

/-- AND abs,Y: `39` (R343). -/
def execAndAbsY (a : Word) (s : State) : Result := s.alu .and (.mem (.absY a)) 3

/-- BIT abs,X: `3C` (R349). -/
def execBitAbsX (a : Word) (s : State) : Result := s.bit (.absX a) 3

/-- AND abs,X: `3D` (R343). -/
def execAndAbsX (a : Word) (s : State) : Result := s.alu .and (.mem (.absX a)) 3

/-- EOR (bp,X): `41` (R345). -/
def execEorBpXInd (nn : Byte) (s : State) : Result := s.alu .eor (.mem (.bpXInd nn)) 2

/-- NEG A: `42` (R262). -/
def execNeg (s : State) : Result := s.negate 1

/-- EOR bp: `45` (R345). -/
def execEorBp (nn : Byte) (s : State) : Result := s.alu .eor (.mem (.bp nn)) 2

/-- EOR #: `49` (R345). -/
def execEorImm (v : Byte) (s : State) : Result := s.alu .eor (.imm v) 2

/-- EOR abs: `4D` (R345). -/
def execEorAbs (a : Word) (s : State) : Result := s.alu .eor (.mem (.abs a)) 3

/-- EOR (bp),Y: `51` (R345). -/
def execEorBpIndY (nn : Byte) (s : State) : Result := s.alu .eor (.mem (.bpIndY nn)) 2

/-- EOR (bp),Z: `52` (R345). -/
def execEorBpIndZ (nn : Byte) (s : State) : Result := s.alu .eor (.mem (.bpIndZ nn)) 2

/-- EOR bp,X: `55` (R345). -/
def execEorBpX (nn : Byte) (s : State) : Result := s.alu .eor (.mem (.bpX nn)) 2

/-- EOR abs,Y: `59` (R345). -/
def execEorAbsY (a : Word) (s : State) : Result := s.alu .eor (.mem (.absY a)) 3

/-- EOR abs,X: `5D` (R345). -/
def execEorAbsX (a : Word) (s : State) : Result := s.alu .eor (.mem (.absX a)) 3

/-- ADC (bp,X): `61` (R340). -/
def execAdcBpXInd (nn : Byte) (s : State) : Result := s.alu .adc (.mem (.bpXInd nn)) 2

/-- ADC bp: `65` (R340). -/
def execAdcBp (nn : Byte) (s : State) : Result := s.alu .adc (.mem (.bp nn)) 2

/-- ADC #: `69` (R340). -/
def execAdcImm (v : Byte) (s : State) : Result := s.alu .adc (.imm v) 2

/-- ADC abs: `6D` (R340). -/
def execAdcAbs (a : Word) (s : State) : Result := s.alu .adc (.mem (.abs a)) 3

/-- ADC (bp),Y: `71` (R340). -/
def execAdcBpIndY (nn : Byte) (s : State) : Result := s.alu .adc (.mem (.bpIndY nn)) 2

/-- ADC (bp),Z: `72` (R340). -/
def execAdcBpIndZ (nn : Byte) (s : State) : Result := s.alu .adc (.mem (.bpIndZ nn)) 2

/-- ADC bp,X: `75` (R340). -/
def execAdcBpX (nn : Byte) (s : State) : Result := s.alu .adc (.mem (.bpX nn)) 2

/-- ADC abs,Y: `79` (R340). -/
def execAdcAbsY (a : Word) (s : State) : Result := s.alu .adc (.mem (.absY a)) 3

/-- ADC abs,X: `7D` (R340). -/
def execAdcAbsX (a : Word) (s : State) : Result := s.alu .adc (.mem (.absX a)) 3

/-- BIT #: `89` (R349). -/
def execBitImm (v : Byte) (s : State) : Result := s.bitImm v 2

/-- CPY #: `C0` (R347). -/
def execCpyImm (v : Byte) (s : State) : Result := s.compare .y (.imm v) 2

/-- CMP (bp,X): `C1` (R342). -/
def execCmpBpXInd (nn : Byte) (s : State) : Result := s.compare .a (.mem (.bpXInd nn)) 2

/-- CPZ #: `C2` (R348). -/
def execCpzImm (v : Byte) (s : State) : Result := s.compare .z (.imm v) 2

/-- CPY bp: `C4` (R347). -/
def execCpyBp (nn : Byte) (s : State) : Result := s.compare .y (.mem (.bp nn)) 2

/-- CMP bp: `C5` (R342). -/
def execCmpBp (nn : Byte) (s : State) : Result := s.compare .a (.mem (.bp nn)) 2

/-- CMP #: `C9` (R342). -/
def execCmpImm (v : Byte) (s : State) : Result := s.compare .a (.imm v) 2

/-- CPY abs: `CC` (R347). -/
def execCpyAbs (a : Word) (s : State) : Result := s.compare .y (.mem (.abs a)) 3

/-- CMP abs: `CD` (R342). -/
def execCmpAbs (a : Word) (s : State) : Result := s.compare .a (.mem (.abs a)) 3

/-- CMP (bp),Y: `D1` (R342). -/
def execCmpBpIndY (nn : Byte) (s : State) : Result := s.compare .a (.mem (.bpIndY nn)) 2

/-- CMP (bp),Z: `D2` (R342). -/
def execCmpBpIndZ (nn : Byte) (s : State) : Result := s.compare .a (.mem (.bpIndZ nn)) 2

/-- CPZ bp: `D4` (R348). -/
def execCpzBp (nn : Byte) (s : State) : Result := s.compare .z (.mem (.bp nn)) 2

/-- CMP bp,X: `D5` (R342). -/
def execCmpBpX (nn : Byte) (s : State) : Result := s.compare .a (.mem (.bpX nn)) 2

/-- CMP abs,Y: `D9` (R342). -/
def execCmpAbsY (a : Word) (s : State) : Result := s.compare .a (.mem (.absY a)) 3

/-- CPZ abs: `DC` (R348). -/
def execCpzAbs (a : Word) (s : State) : Result := s.compare .z (.mem (.abs a)) 3

/-- CMP abs,X: `DD` (R342). -/
def execCmpAbsX (a : Word) (s : State) : Result := s.compare .a (.mem (.absX a)) 3

/-- CPX #: `E0` (R346). -/
def execCpxImm (v : Byte) (s : State) : Result := s.compare .x (.imm v) 2

/-- SBC (bp,X): `E1` (R341). -/
def execSbcBpXInd (nn : Byte) (s : State) : Result := s.alu .sbc (.mem (.bpXInd nn)) 2

/-- CPX bp: `E4` (R346). -/
def execCpxBp (nn : Byte) (s : State) : Result := s.compare .x (.mem (.bp nn)) 2

/-- SBC bp: `E5` (R341). -/
def execSbcBp (nn : Byte) (s : State) : Result := s.alu .sbc (.mem (.bp nn)) 2

/-- SBC #: `E9` (R341). -/
def execSbcImm (v : Byte) (s : State) : Result := s.alu .sbc (.imm v) 2

/-- CPX abs: `EC` (R346). -/
def execCpxAbs (a : Word) (s : State) : Result := s.compare .x (.mem (.abs a)) 3

/-- SBC abs: `ED` (R341). -/
def execSbcAbs (a : Word) (s : State) : Result := s.alu .sbc (.mem (.abs a)) 3

/-- SBC (bp),Y: `F1` (R341). -/
def execSbcBpIndY (nn : Byte) (s : State) : Result := s.alu .sbc (.mem (.bpIndY nn)) 2

/-- SBC (bp),Z: `F2` (R341). -/
def execSbcBpIndZ (nn : Byte) (s : State) : Result := s.alu .sbc (.mem (.bpIndZ nn)) 2

/-- SBC bp,X: `F5` (R341). -/
def execSbcBpX (nn : Byte) (s : State) : Result := s.alu .sbc (.mem (.bpX nn)) 2

/-- SBC abs,Y: `F9` (R341). -/
def execSbcAbsY (a : Word) (s : State) : Result := s.alu .sbc (.mem (.absY a)) 3

/-- SBC abs,X: `FD` (R341). -/
def execSbcAbsX (a : Word) (s : State) : Result := s.alu .sbc (.mem (.absX a)) 3

end Sys2Proof.Machine
end

