-- ==== Sys2Proof/Machine/Bits.lean ====
section
/-! DEFINITION. The bit operations on memory (`47_base_alu.md` R372 to R375). -/

namespace Sys2Proof.Machine

/-- TSB bp: `04` (R372). -/
def execTsbBp (nn : Byte) (s : State) : Result := s.bitMem .tsb (.bp nn) 2

/-- RMB0 bp: `07` (R374). -/
def execRmb0 (nn : Byte) (s : State) : Result := s.bitMem (.rmb 0) (.bp nn) 2

/-- TSB abs: `0C` (R372). -/
def execTsbAbs (a : Word) (s : State) : Result := s.bitMem .tsb (.abs a) 3

/-- TRB bp: `14` (R373). -/
def execTrbBp (nn : Byte) (s : State) : Result := s.bitMem .trb (.bp nn) 2

/-- RMB1 bp: `17` (R374). -/
def execRmb1 (nn : Byte) (s : State) : Result := s.bitMem (.rmb 1) (.bp nn) 2

/-- TRB abs: `1C` (R373). -/
def execTrbAbs (a : Word) (s : State) : Result := s.bitMem .trb (.abs a) 3

/-- RMB2 bp: `27` (R374). -/
def execRmb2 (nn : Byte) (s : State) : Result := s.bitMem (.rmb 2) (.bp nn) 2

/-- RMB3 bp: `37` (R374). -/
def execRmb3 (nn : Byte) (s : State) : Result := s.bitMem (.rmb 3) (.bp nn) 2

/-- RMB4 bp: `47` (R374). -/
def execRmb4 (nn : Byte) (s : State) : Result := s.bitMem (.rmb 4) (.bp nn) 2

/-- RMB5 bp: `57` (R374). -/
def execRmb5 (nn : Byte) (s : State) : Result := s.bitMem (.rmb 5) (.bp nn) 2

/-- RMB6 bp: `67` (R374). -/
def execRmb6 (nn : Byte) (s : State) : Result := s.bitMem (.rmb 6) (.bp nn) 2

/-- RMB7 bp: `77` (R374). -/
def execRmb7 (nn : Byte) (s : State) : Result := s.bitMem (.rmb 7) (.bp nn) 2

/-- SMB0 bp: `87` (R375). -/
def execSmb0 (nn : Byte) (s : State) : Result := s.bitMem (.smb 0) (.bp nn) 2

/-- SMB1 bp: `97` (R375). -/
def execSmb1 (nn : Byte) (s : State) : Result := s.bitMem (.smb 1) (.bp nn) 2

/-- SMB2 bp: `A7` (R375). -/
def execSmb2 (nn : Byte) (s : State) : Result := s.bitMem (.smb 2) (.bp nn) 2

/-- SMB3 bp: `B7` (R375). -/
def execSmb3 (nn : Byte) (s : State) : Result := s.bitMem (.smb 3) (.bp nn) 2

/-- SMB4 bp: `C7` (R375). -/
def execSmb4 (nn : Byte) (s : State) : Result := s.bitMem (.smb 4) (.bp nn) 2

/-- SMB5 bp: `D7` (R375). -/
def execSmb5 (nn : Byte) (s : State) : Result := s.bitMem (.smb 5) (.bp nn) 2

/-- SMB6 bp: `E7` (R375). -/
def execSmb6 (nn : Byte) (s : State) : Result := s.bitMem (.smb 6) (.bp nn) 2

/-- SMB7 bp: `F7` (R375). -/
def execSmb7 (nn : Byte) (s : State) : Result := s.bitMem (.smb 7) (.bp nn) 2

end Sys2Proof.Machine
end

