-- ==== Sys2Proof/Machine/Branch.lean ====
section
/-! DEFINITION. The branches (`48_base_control.md` R400 to R415). -/

namespace Sys2Proof.Machine

/-- BBR0 bp,rel: `0F` (R415). -/
def execBbr0 (nn : Byte) (d : Byte) (s : State) : Result := s.branchBit false 0 nn d 3

/-- BPL rel: `10` (R401). -/
def execBplRel (d : Byte) (s : State) : Result := s.branch .pl d 2

/-- BPL relw: `13` (R401). -/
def execBplRelW (d : Word) (s : State) : Result := s.branchWord .pl d 3

/-- BBR1 bp,rel: `1F` (R415). -/
def execBbr1 (nn : Byte) (d : Byte) (s : State) : Result := s.branchBit false 1 nn d 3

/-- BBR2 bp,rel: `2F` (R415). -/
def execBbr2 (nn : Byte) (d : Byte) (s : State) : Result := s.branchBit false 2 nn d 3

/-- BMI rel: `30` (R402). -/
def execBmiRel (d : Byte) (s : State) : Result := s.branch .mi d 2

/-- BMI relw: `33` (R402). -/
def execBmiRelW (d : Word) (s : State) : Result := s.branchWord .mi d 3

/-- BBR3 bp,rel: `3F` (R415). -/
def execBbr3 (nn : Byte) (d : Byte) (s : State) : Result := s.branchBit false 3 nn d 3

/-- BBR4 bp,rel: `4F` (R415). -/
def execBbr4 (nn : Byte) (d : Byte) (s : State) : Result := s.branchBit false 4 nn d 3

/-- BVC rel: `50` (R403). -/
def execBvcRel (d : Byte) (s : State) : Result := s.branch .vc d 2

/-- BVC relw: `53` (R403). -/
def execBvcRelW (d : Word) (s : State) : Result := s.branchWord .vc d 3

/-- BBR5 bp,rel: `5F` (R415). -/
def execBbr5 (nn : Byte) (d : Byte) (s : State) : Result := s.branchBit false 5 nn d 3

/-- BSR relw: `63` (R410). -/
def execBsrRelW (d : Word) (s : State) : Result := s.branchSub d 3

/-- BBR6 bp,rel: `6F` (R415). -/
def execBbr6 (nn : Byte) (d : Byte) (s : State) : Result := s.branchBit false 6 nn d 3

/-- BVS rel: `70` (R404). -/
def execBvsRel (d : Byte) (s : State) : Result := s.branch .vs d 2

/-- BVS relw: `73` (R404). -/
def execBvsRelW (d : Word) (s : State) : Result := s.branchWord .vs d 3

/-- BBR7 bp,rel: `7F` (R415). -/
def execBbr7 (nn : Byte) (d : Byte) (s : State) : Result := s.branchBit false 7 nn d 3

/-- BRA rel: `80` (R409). -/
def execBraRel (d : Byte) (s : State) : Result := s.branch .always d 2

/-- BRA relw: `83` (R409). -/
def execBraRelW (d : Word) (s : State) : Result := s.branchWord .always d 3

/-- BBS0 bp,rel: `8F` (R415). -/
def execBbs0 (nn : Byte) (d : Byte) (s : State) : Result := s.branchBit true 0 nn d 3

/-- BCC rel: `90` (R405). -/
def execBccRel (d : Byte) (s : State) : Result := s.branch .cc d 2

/-- BCC relw: `93` (R405). -/
def execBccRelW (d : Word) (s : State) : Result := s.branchWord .cc d 3

/-- BBS1 bp,rel: `9F` (R415). -/
def execBbs1 (nn : Byte) (d : Byte) (s : State) : Result := s.branchBit true 1 nn d 3

/-- BBS2 bp,rel: `AF` (R415). -/
def execBbs2 (nn : Byte) (d : Byte) (s : State) : Result := s.branchBit true 2 nn d 3

/-- BCS rel: `B0` (R406). -/
def execBcsRel (d : Byte) (s : State) : Result := s.branch .cs d 2

/-- BCS relw: `B3` (R406). -/
def execBcsRelW (d : Word) (s : State) : Result := s.branchWord .cs d 3

/-- BBS3 bp,rel: `BF` (R415). -/
def execBbs3 (nn : Byte) (d : Byte) (s : State) : Result := s.branchBit true 3 nn d 3

/-- BBS4 bp,rel: `CF` (R415). -/
def execBbs4 (nn : Byte) (d : Byte) (s : State) : Result := s.branchBit true 4 nn d 3

/-- BNE rel: `D0` (R407). -/
def execBneRel (d : Byte) (s : State) : Result := s.branch .ne d 2

/-- BNE relw: `D3` (R407). -/
def execBneRelW (d : Word) (s : State) : Result := s.branchWord .ne d 3

/-- BBS5 bp,rel: `DF` (R415). -/
def execBbs5 (nn : Byte) (d : Byte) (s : State) : Result := s.branchBit true 5 nn d 3

/-- BBS6 bp,rel: `EF` (R415). -/
def execBbs6 (nn : Byte) (d : Byte) (s : State) : Result := s.branchBit true 6 nn d 3

/-- BEQ rel: `F0` (R408). -/
def execBeqRel (d : Byte) (s : State) : Result := s.branch .eq d 2

/-- BEQ relw: `F3` (R408). -/
def execBeqRelW (d : Word) (s : State) : Result := s.branchWord .eq d 3

/-- BBS7 bp,rel: `FF` (R415). -/
def execBbs7 (nn : Byte) (d : Byte) (s : State) : Result := s.branchBit true 7 nn d 3

end Sys2Proof.Machine
end

