-- ==== Sys2Proof/Machine/Far.lean ====
section
/-! DEFINITION. The 32-bit pointer forms `[bp],Z` of the 8-bit instructions (`44_far_indirect.md` R240 to R247). -/

namespace Sys2Proof.Machine

/-- ORA [bp],Z: `EA 12` (R246). -/
def execOraFarZ (nn : Byte) (s : State) : Result := s.alu .ora (.mem (.farZ nn)) 3

/-- AND [bp],Z: `EA 32` (R245). -/
def execAndFarZ (nn : Byte) (s : State) : Result := s.alu .and (.mem (.farZ nn)) 3

/-- EOR [bp],Z: `EA 52` (R247). -/
def execEorFarZ (nn : Byte) (s : State) : Result := s.alu .eor (.mem (.farZ nn)) 3

/-- ADC [bp],Z: `EA 72` (R242). -/
def execAdcFarZ (nn : Byte) (s : State) : Result := s.alu .adc (.mem (.farZ nn)) 3

/-- STA [bp],Z: `EA 92` (R241). -/
def execStaFarZ (nn : Byte) (s : State) : Result := s.store .a (.farZ nn) 3

/-- LDA [bp],Z: `EA B2` (R240). -/
def execLdaFarZ (nn : Byte) (s : State) : Result := s.load .a (.mem (.farZ nn)) 3

/-- CMP [bp],Z: `EA D2` (R244). -/
def execCmpFarZ (nn : Byte) (s : State) : Result := s.compare .a (.mem (.farZ nn)) 3

/-- SBC [bp],Z: `EA F2` (R243). -/
def execSbcFarZ (nn : Byte) (s : State) : Result := s.alu .sbc (.mem (.farZ nn)) 3

end Sys2Proof.Machine
end

