-- ==== Sys2Proof/Machine/FlagOps.lean ====
section
/-! DEFINITION. The flag instructions (`48_base_control.md` R430 to R438). -/

namespace Sys2Proof.Machine

/-- CLE: `02` (R437). -/
def execCle (s : State) : Result := s.flag .cle 1

/-- SEE: `03` (R438). -/
def execSee (s : State) : Result := s.flag .see 1

/-- CLC: `18` (R430). -/
def execClc (s : State) : Result := s.flag .clc 1

/-- SEC: `38` (R431). -/
def execSec (s : State) : Result := s.flag .sec 1

/-- CLI: `58` (R432). -/
def execCli (s : State) : Result := s.flag .cli 1

/-- SEI: `78` (R433). -/
def execSei (s : State) : Result := s.flag .sei 1

/-- CLV: `B8` (R436). -/
def execClv (s : State) : Result := s.flag .clv 1

/-- CLD: `D8` (R434). -/
def execCld (s : State) : Result := s.flag .cld 1

/-- SED: `F8` (R435). -/
def execSed (s : State) : Result := s.flag .sed 1

end Sys2Proof.Machine
end

