-- ==== Sys2Proof/Machine/Jump.lean ====
section
/-! DEFINITION. Jumps, subroutine calls and returns (`48_base_control.md` R420 to R427). -/

namespace Sys2Proof.Machine

/-- JSR abs: `20` (R423). -/
def execJsrAbs (a : Word) (s : State) : Result := s.call (.abs a) 3

/-- JSR (abs): `22` (R424). -/
def execJsrInd (a : Word) (s : State) : Result := s.call (.ind a) 3

/-- JSR (abs,X): `23` (R425). -/
def execJsrIndX (a : Word) (s : State) : Result := s.call (.indX a) 3

/-- JMP abs: `4C` (R420). -/
def execJmpAbs (a : Word) (s : State) : Result := s.jump (.abs a) 3

/-- RTS: `60` (R426). -/
def execRts (s : State) : Result := s.ret 0x00#8 1

/-- RTS #: `62` (R427). -/
def execRtsImm (n : Byte) (s : State) : Result := s.ret n 2

/-- JMP (abs): `6C` (R421). -/
def execJmpInd (a : Word) (s : State) : Result := s.jump (.ind a) 3

/-- JMP (abs,X): `7C` (R422). -/
def execJmpIndX (a : Word) (s : State) : Result := s.jump (.indX a) 3

end Sys2Proof.Machine
end

