-- ==== Sys2Proof/Machine/LoadStore.lean ====
section
/-! DEFINITION. The loads and stores (`46_base_load_store_transfer.md` R280 to R287). -/

namespace Sys2Proof.Machine

/-- STZ bp: `64` (R287). -/
def execStzBp (nn : Byte) (s : State) : Result := s.store .z (.bp nn) 2

/-- STZ bp,X: `74` (R287). -/
def execStzBpX (nn : Byte) (s : State) : Result := s.store .z (.bpX nn) 2

/-- STA (bp,X): `81` (R284). -/
def execStaBpXInd (nn : Byte) (s : State) : Result := s.store .a (.bpXInd nn) 2

/-- STA (d,SP),Y: `82` (R284). -/
def execStaSpIndY (nn : Byte) (s : State) : Result := s.store .a (.spIndY nn) 2

/-- STY bp: `84` (R286). -/
def execStyBp (nn : Byte) (s : State) : Result := s.store .y (.bp nn) 2

/-- STA bp: `85` (R284). -/
def execStaBp (nn : Byte) (s : State) : Result := s.store .a (.bp nn) 2

/-- STX bp: `86` (R285). -/
def execStxBp (nn : Byte) (s : State) : Result := s.store .x (.bp nn) 2

/-- STY abs,X: `8B` (R286). -/
def execStyAbsX (a : Word) (s : State) : Result := s.store .y (.absX a) 3

/-- STY abs: `8C` (R286). -/
def execStyAbs (a : Word) (s : State) : Result := s.store .y (.abs a) 3

/-- STA abs: `8D` (R284). -/
def execStaAbs (a : Word) (s : State) : Result := s.store .a (.abs a) 3

/-- STX abs: `8E` (R285). -/
def execStxAbs (a : Word) (s : State) : Result := s.store .x (.abs a) 3

/-- STA (bp),Y: `91` (R284). -/
def execStaBpIndY (nn : Byte) (s : State) : Result := s.store .a (.bpIndY nn) 2

/-- STA (bp),Z: `92` (R284). -/
def execStaBpIndZ (nn : Byte) (s : State) : Result := s.store .a (.bpIndZ nn) 2

/-- STY bp,X: `94` (R286). -/
def execStyBpX (nn : Byte) (s : State) : Result := s.store .y (.bpX nn) 2

/-- STA bp,X: `95` (R284). -/
def execStaBpX (nn : Byte) (s : State) : Result := s.store .a (.bpX nn) 2

/-- STX bp,Y: `96` (R285). -/
def execStxBpY (nn : Byte) (s : State) : Result := s.store .x (.bpY nn) 2

/-- STA abs,Y: `99` (R284). -/
def execStaAbsY (a : Word) (s : State) : Result := s.store .a (.absY a) 3

/-- STX abs,Y: `9B` (R285). -/
def execStxAbsY (a : Word) (s : State) : Result := s.store .x (.absY a) 3

/-- STZ abs: `9C` (R287). -/
def execStzAbs (a : Word) (s : State) : Result := s.store .z (.abs a) 3

/-- STA abs,X: `9D` (R284). -/
def execStaAbsX (a : Word) (s : State) : Result := s.store .a (.absX a) 3

/-- STZ abs,X: `9E` (R287). -/
def execStzAbsX (a : Word) (s : State) : Result := s.store .z (.absX a) 3

/-- LDY #: `A0` (R282). -/
def execLdyImm (v : Byte) (s : State) : Result := s.load .y (.imm v) 2

/-- LDA (bp,X): `A1` (R280). -/
def execLdaBpXInd (nn : Byte) (s : State) : Result := s.load .a (.mem (.bpXInd nn)) 2

/-- LDX #: `A2` (R281). -/
def execLdxImm (v : Byte) (s : State) : Result := s.load .x (.imm v) 2

/-- LDZ #: `A3` (R283). -/
def execLdzImm (v : Byte) (s : State) : Result := s.load .z (.imm v) 2

/-- LDY bp: `A4` (R282). -/
def execLdyBp (nn : Byte) (s : State) : Result := s.load .y (.mem (.bp nn)) 2

/-- LDA bp: `A5` (R280). -/
def execLdaBp (nn : Byte) (s : State) : Result := s.load .a (.mem (.bp nn)) 2

/-- LDX bp: `A6` (R281). -/
def execLdxBp (nn : Byte) (s : State) : Result := s.load .x (.mem (.bp nn)) 2

/-- LDA #: `A9` (R280). -/
def execLdaImm (v : Byte) (s : State) : Result := s.load .a (.imm v) 2

/-- LDZ abs: `AB` (R283). -/
def execLdzAbs (a : Word) (s : State) : Result := s.load .z (.mem (.abs a)) 3

/-- LDY abs: `AC` (R282). -/
def execLdyAbs (a : Word) (s : State) : Result := s.load .y (.mem (.abs a)) 3

/-- LDA abs: `AD` (R280). -/
def execLdaAbs (a : Word) (s : State) : Result := s.load .a (.mem (.abs a)) 3

/-- LDX abs: `AE` (R281). -/
def execLdxAbs (a : Word) (s : State) : Result := s.load .x (.mem (.abs a)) 3

/-- LDA (bp),Y: `B1` (R280). -/
def execLdaBpIndY (nn : Byte) (s : State) : Result := s.load .a (.mem (.bpIndY nn)) 2

/-- LDA (bp),Z: `B2` (R280). -/
def execLdaBpIndZ (nn : Byte) (s : State) : Result := s.load .a (.mem (.bpIndZ nn)) 2

/-- LDY bp,X: `B4` (R282). -/
def execLdyBpX (nn : Byte) (s : State) : Result := s.load .y (.mem (.bpX nn)) 2

/-- LDA bp,X: `B5` (R280). -/
def execLdaBpX (nn : Byte) (s : State) : Result := s.load .a (.mem (.bpX nn)) 2

/-- LDX bp,Y: `B6` (R281). -/
def execLdxBpY (nn : Byte) (s : State) : Result := s.load .x (.mem (.bpY nn)) 2

/-- LDA abs,Y: `B9` (R280). -/
def execLdaAbsY (a : Word) (s : State) : Result := s.load .a (.mem (.absY a)) 3

/-- LDZ abs,X: `BB` (R283). -/
def execLdzAbsX (a : Word) (s : State) : Result := s.load .z (.mem (.absX a)) 3

/-- LDY abs,X: `BC` (R282). -/
def execLdyAbsX (a : Word) (s : State) : Result := s.load .y (.mem (.absX a)) 3

/-- LDA abs,X: `BD` (R280). -/
def execLdaAbsX (a : Word) (s : State) : Result := s.load .a (.mem (.absX a)) 3

/-- LDX abs,Y: `BE` (R281). -/
def execLdxAbsY (a : Word) (s : State) : Result := s.load .x (.mem (.absY a)) 3

/-- LDA (d,SP),Y: `E2` (R280). -/
def execLdaSpIndY (nn : Byte) (s : State) : Result := s.load .a (.mem (.spIndY nn)) 2

end Sys2Proof.Machine
end

