-- ==== Sys2Proof/Machine/QuadArith.lean ====
section
/-! DEFINITION. The Q arithmetic, logic, comparison and bit test (`42_q_arith_logic.md` R200 to R206). -/

namespace Sys2Proof.Machine

/-- ADCQ bp: `42 42 65` (R200). -/
def execAdcqBp (nn : Byte) (s : State) : Result := s.aluQ .adc (.bp nn) 4

/-- ADCQ abs: `42 42 6D` (R200). -/
def execAdcqAbs (a : Word) (s : State) : Result := s.aluQ .adc (.abs a) 5

/-- ADCQ (bp): `42 42 72` (R200). -/
def execAdcqBpInd (nn : Byte) (s : State) : Result := s.aluQ .adc (.bpInd nn) 4

/-- SBCQ bp: `42 42 E5` (R201). -/
def execSbcqBp (nn : Byte) (s : State) : Result := s.aluQ .sbc (.bp nn) 4

/-- SBCQ abs: `42 42 ED` (R201). -/
def execSbcqAbs (a : Word) (s : State) : Result := s.aluQ .sbc (.abs a) 5

/-- SBCQ (bp): `42 42 F2` (R201). -/
def execSbcqBpInd (nn : Byte) (s : State) : Result := s.aluQ .sbc (.bpInd nn) 4

/-- CMPQ bp: `42 42 C5` (R202). -/
def execCmpqBp (nn : Byte) (s : State) : Result := s.compareQ (.bp nn) 4

/-- CMPQ abs: `42 42 CD` (R202). -/
def execCmpqAbs (a : Word) (s : State) : Result := s.compareQ (.abs a) 5

/-- CMPQ (bp): `42 42 D2` (R202). -/
def execCmpqBpInd (nn : Byte) (s : State) : Result := s.compareQ (.bpInd nn) 4

/-- ANDQ bp: `42 42 25` (R203). -/
def execAndqBp (nn : Byte) (s : State) : Result := s.aluQ .and (.bp nn) 4

/-- ANDQ abs: `42 42 2D` (R203). -/
def execAndqAbs (a : Word) (s : State) : Result := s.aluQ .and (.abs a) 5

/-- ANDQ (bp): `42 42 32` (R203). -/
def execAndqBpInd (nn : Byte) (s : State) : Result := s.aluQ .and (.bpInd nn) 4

/-- ORQ bp: `42 42 05` (R204). -/
def execOrqBp (nn : Byte) (s : State) : Result := s.aluQ .ora (.bp nn) 4

/-- ORQ abs: `42 42 0D` (R204). -/
def execOrqAbs (a : Word) (s : State) : Result := s.aluQ .ora (.abs a) 5

/-- ORQ (bp): `42 42 12` (R204). -/
def execOrqBpInd (nn : Byte) (s : State) : Result := s.aluQ .ora (.bpInd nn) 4

/-- EORQ bp: `42 42 45` (R205). -/
def execEorqBp (nn : Byte) (s : State) : Result := s.aluQ .eor (.bp nn) 4

/-- EORQ abs: `42 42 4D` (R205). -/
def execEorqAbs (a : Word) (s : State) : Result := s.aluQ .eor (.abs a) 5

/-- EORQ (bp): `42 42 52` (R205). -/
def execEorqBpInd (nn : Byte) (s : State) : Result := s.aluQ .eor (.bpInd nn) 4

/-- BITQ bp: `42 42 24` (R206). -/
def execBitqBp (nn : Byte) (s : State) : Result := s.bitQ (.bp nn) 4

/-- BITQ abs: `42 42 2C` (R206). -/
def execBitqAbs (a : Word) (s : State) : Result := s.bitQ (.abs a) 5

/-- ORQ [bp]: `42 42 EA 12` (R204). -/
def execOrqFar (nn : Byte) (s : State) : Result := s.aluQ .ora (.far nn) 5

/-- ANDQ [bp]: `42 42 EA 32` (R203). -/
def execAndqFar (nn : Byte) (s : State) : Result := s.aluQ .and (.far nn) 5

/-- EORQ [bp]: `42 42 EA 52` (R205). -/
def execEorqFar (nn : Byte) (s : State) : Result := s.aluQ .eor (.far nn) 5

/-- ADCQ [bp]: `42 42 EA 72` (R200). -/
def execAdcqFar (nn : Byte) (s : State) : Result := s.aluQ .adc (.far nn) 5

/-- CMPQ [bp]: `42 42 EA D2` (R202). -/
def execCmpqFar (nn : Byte) (s : State) : Result := s.compareQ (.far nn) 5

/-- SBCQ [bp]: `42 42 EA F2` (R201). -/
def execSbcqFar (nn : Byte) (s : State) : Result := s.aluQ .sbc (.far nn) 5

end Sys2Proof.Machine
end

