-- ==== Sys2Proof/Machine/QuadLoadStore.lean ====
section
/-! DEFINITION. LDQ and STQ (`41_q_load_store.md` R190, R191). -/

namespace Sys2Proof.Machine

/-- LDQ bp: `42 42 A5` (R190). -/
def execLdqBp (nn : Byte) (s : State) : Result := s.loadQ (.bp nn) 4

/-- LDQ abs: `42 42 AD` (R190). -/
def execLdqAbs (a : Word) (s : State) : Result := s.loadQ (.abs a) 5

/-- LDQ (bp),Z: `42 42 B2` (R190). -/
def execLdqBpIndZ (nn : Byte) (s : State) : Result := s.loadQ (.bpIndZ nn) 4

/-- STQ bp: `42 42 85` (R191). -/
def execStqBp (nn : Byte) (s : State) : Result := s.storeQ (.bp nn) 4

/-- STQ abs: `42 42 8D` (R191). -/
def execStqAbs (a : Word) (s : State) : Result := s.storeQ (.abs a) 5

/-- STQ (bp): `42 42 92` (R191). -/
def execStqBpInd (nn : Byte) (s : State) : Result := s.storeQ (.bpInd nn) 4

/-- STQ [bp]: `42 42 EA 92` (R191). -/
def execStqFar (nn : Byte) (s : State) : Result := s.storeQ (.far nn) 5

/-- LDQ [bp],Z: `42 42 EA B2` (R190). -/
def execLdqFarZ (nn : Byte) (s : State) : Result := s.loadQ (.farZ nn) 5

end Sys2Proof.Machine
end

