-- ==== Sys2Proof/Machine/QuadShift.lean ====
section
/-! DEFINITION. The Q shifts, increments and decrements (`43_q_shift_incdec.md` R220 to R226). -/

namespace Sys2Proof.Machine

/-- ASLQ Q: `42 42 0A` (R220). -/
def execAslqQ (s : State) : Result := s.changeQ (.shift .asl) 3

/-- ASLQ bp: `42 42 06` (R220). -/
def execAslqBp (nn : Byte) (s : State) : Result := s.changeMemQ (.shift .asl) (.bp nn) 4

/-- ASLQ bp,X: `42 42 16` (R220). -/
def execAslqBpX (nn : Byte) (s : State) : Result := s.changeMemQ (.shift .asl) (.bpX nn) 4

/-- ASLQ abs: `42 42 0E` (R220). -/
def execAslqAbs (a : Word) (s : State) : Result := s.changeMemQ (.shift .asl) (.abs a) 5

/-- ASLQ abs,X: `42 42 1E` (R220). -/
def execAslqAbsX (a : Word) (s : State) : Result := s.changeMemQ (.shift .asl) (.absX a) 5

/-- ASRQ Q: `42 42 43` (R221). -/
def execAsrqQ (s : State) : Result := s.changeQ (.shift .asr) 3

/-- ASRQ bp: `42 42 44` (R221). -/
def execAsrqBp (nn : Byte) (s : State) : Result := s.changeMemQ (.shift .asr) (.bp nn) 4

/-- ASRQ bp,X: `42 42 54` (R221). -/
def execAsrqBpX (nn : Byte) (s : State) : Result := s.changeMemQ (.shift .asr) (.bpX nn) 4

/-- LSRQ Q: `42 42 4A` (R222). -/
def execLsrqQ (s : State) : Result := s.changeQ (.shift .lsr) 3

/-- LSRQ bp: `42 42 46` (R222). -/
def execLsrqBp (nn : Byte) (s : State) : Result := s.changeMemQ (.shift .lsr) (.bp nn) 4

/-- LSRQ bp,X: `42 42 56` (R222). -/
def execLsrqBpX (nn : Byte) (s : State) : Result := s.changeMemQ (.shift .lsr) (.bpX nn) 4

/-- LSRQ abs: `42 42 4E` (R222). -/
def execLsrqAbs (a : Word) (s : State) : Result := s.changeMemQ (.shift .lsr) (.abs a) 5

/-- LSRQ abs,X: `42 42 5E` (R222). -/
def execLsrqAbsX (a : Word) (s : State) : Result := s.changeMemQ (.shift .lsr) (.absX a) 5

/-- ROLQ Q: `42 42 2A` (R223). -/
def execRolqQ (s : State) : Result := s.changeQ (.shift .rol) 3

/-- ROLQ bp: `42 42 26` (R223). -/
def execRolqBp (nn : Byte) (s : State) : Result := s.changeMemQ (.shift .rol) (.bp nn) 4

/-- ROLQ bp,X: `42 42 36` (R223). -/
def execRolqBpX (nn : Byte) (s : State) : Result := s.changeMemQ (.shift .rol) (.bpX nn) 4

/-- ROLQ abs: `42 42 2E` (R223). -/
def execRolqAbs (a : Word) (s : State) : Result := s.changeMemQ (.shift .rol) (.abs a) 5

/-- ROLQ abs,X: `42 42 3E` (R223). -/
def execRolqAbsX (a : Word) (s : State) : Result := s.changeMemQ (.shift .rol) (.absX a) 5

/-- RORQ Q: `42 42 6A` (R224). -/
def execRorqQ (s : State) : Result := s.changeQ (.shift .ror) 3

/-- RORQ bp: `42 42 66` (R224). -/
def execRorqBp (nn : Byte) (s : State) : Result := s.changeMemQ (.shift .ror) (.bp nn) 4

/-- RORQ bp,X: `42 42 76` (R224). -/
def execRorqBpX (nn : Byte) (s : State) : Result := s.changeMemQ (.shift .ror) (.bpX nn) 4

/-- RORQ abs: `42 42 6E` (R224). -/
def execRorqAbs (a : Word) (s : State) : Result := s.changeMemQ (.shift .ror) (.abs a) 5

/-- RORQ abs,X: `42 42 7E` (R224). -/
def execRorqAbsX (a : Word) (s : State) : Result := s.changeMemQ (.shift .ror) (.absX a) 5

/-- INQ Q: `42 42 1A` (R225). -/
def execInqQ (s : State) : Result := s.changeQ (.step true) 3

/-- INQ bp: `42 42 E6` (R225). -/
def execInqBp (nn : Byte) (s : State) : Result := s.changeMemQ (.step true) (.bp nn) 4

/-- INQ bp,X: `42 42 F6` (R225). -/
def execInqBpX (nn : Byte) (s : State) : Result := s.changeMemQ (.step true) (.bpX nn) 4

/-- INQ abs: `42 42 EE` (R225). -/
def execInqAbs (a : Word) (s : State) : Result := s.changeMemQ (.step true) (.abs a) 5

/-- INQ abs,X: `42 42 FE` (R225). -/
def execInqAbsX (a : Word) (s : State) : Result := s.changeMemQ (.step true) (.absX a) 5

/-- DEQ Q: `42 42 3A` (R226). -/
def execDeqQ (s : State) : Result := s.changeQ (.step false) 3

/-- DEQ bp: `42 42 C6` (R226). -/
def execDeqBp (nn : Byte) (s : State) : Result := s.changeMemQ (.step false) (.bp nn) 4

/-- DEQ bp,X: `42 42 D6` (R226). -/
def execDeqBpX (nn : Byte) (s : State) : Result := s.changeMemQ (.step false) (.bpX nn) 4

/-- DEQ abs: `42 42 CE` (R226). -/
def execDeqAbs (a : Word) (s : State) : Result := s.changeMemQ (.step false) (.abs a) 5

/-- DEQ abs,X: `42 42 DE` (R226). -/
def execDeqAbsX (a : Word) (s : State) : Result := s.changeMemQ (.step false) (.absX a) 5

end Sys2Proof.Machine
end

