-- ==== Sys2Proof/Machine/Reserved.lean ====
section
/-! DEFINITION. The reserved Q encodings RESQ and RSVQ (`44_far_indirect.md` R248, R249): no meaning in the spec, refused. -/

namespace Sys2Proof.Machine

/-- RESQ bp,X: `42 42 15` (R248). -/
def execResq15 (_nn : Byte) (s : State) : Result := s.reserved

/-- RESQ bp,X: `42 42 34` (R248). -/
def execResq34 (_nn : Byte) (s : State) : Result := s.reserved

/-- RESQ bp,X: `42 42 35` (R248). -/
def execResq35 (_nn : Byte) (s : State) : Result := s.reserved

/-- RESQ bp,X: `42 42 55` (R248). -/
def execResq55 (_nn : Byte) (s : State) : Result := s.reserved

/-- RESQ bp,X: `42 42 75` (R248). -/
def execResq75 (_nn : Byte) (s : State) : Result := s.reserved

/-- RESQ abs,X: `42 42 1D` (R248). -/
def execResq1D (_a : Word) (s : State) : Result := s.reserved

/-- RESQ abs,X: `42 42 3C` (R248). -/
def execResq3C (_a : Word) (s : State) : Result := s.reserved

/-- RESQ abs,X: `42 42 3D` (R248). -/
def execResq3D (_a : Word) (s : State) : Result := s.reserved

/-- RESQ abs,X: `42 42 5D` (R248). -/
def execResq5D (_a : Word) (s : State) : Result := s.reserved

/-- RESQ abs,X: `42 42 7D` (R248). -/
def execResq7D (_a : Word) (s : State) : Result := s.reserved

/-- RESQ abs,Y: `42 42 19` (R248). -/
def execResq19 (_a : Word) (s : State) : Result := s.reserved

/-- RESQ abs,Y: `42 42 39` (R248). -/
def execResq39 (_a : Word) (s : State) : Result := s.reserved

/-- RESQ abs,Y: `42 42 59` (R248). -/
def execResq59 (_a : Word) (s : State) : Result := s.reserved

/-- RESQ abs,Y: `42 42 79` (R248). -/
def execResq79 (_a : Word) (s : State) : Result := s.reserved

/-- RESQ (bp,X): `42 42 01` (R248). -/
def execResq01 (_nn : Byte) (s : State) : Result := s.reserved

/-- RESQ (bp,X): `42 42 21` (R248). -/
def execResq21 (_nn : Byte) (s : State) : Result := s.reserved

/-- RESQ (bp,X): `42 42 41` (R248). -/
def execResq41 (_nn : Byte) (s : State) : Result := s.reserved

/-- RESQ (bp,X): `42 42 61` (R248). -/
def execResq61 (_nn : Byte) (s : State) : Result := s.reserved

/-- RESQ (bp),Y: `42 42 11` (R248). -/
def execResq11 (_nn : Byte) (s : State) : Result := s.reserved

/-- RESQ (bp),Y: `42 42 31` (R248). -/
def execResq31 (_nn : Byte) (s : State) : Result := s.reserved

/-- RESQ (bp),Y: `42 42 51` (R248). -/
def execResq51 (_nn : Byte) (s : State) : Result := s.reserved

/-- RESQ (bp),Y: `42 42 71` (R248). -/
def execResq71 (_nn : Byte) (s : State) : Result := s.reserved

/-- RSVQ bp,X: `42 42 95` (R249). -/
def execRsvq95 (_nn : Byte) (s : State) : Result := s.reserved

/-- RSVQ bp,X: `42 42 D5` (R249). -/
def execRsvqD5 (_nn : Byte) (s : State) : Result := s.reserved

/-- RSVQ bp,X: `42 42 F5` (R249). -/
def execRsvqF5 (_nn : Byte) (s : State) : Result := s.reserved

/-- RSVQ abs,X: `42 42 9D` (R249). -/
def execRsvq9D (_a : Word) (s : State) : Result := s.reserved

/-- RSVQ abs,X: `42 42 DD` (R249). -/
def execRsvqDD (_a : Word) (s : State) : Result := s.reserved

/-- RSVQ abs,X: `42 42 FD` (R249). -/
def execRsvqFD (_a : Word) (s : State) : Result := s.reserved

/-- RSVQ abs,Y: `42 42 99` (R249). -/
def execRsvq99 (_a : Word) (s : State) : Result := s.reserved

/-- RSVQ abs,Y: `42 42 D9` (R249). -/
def execRsvqD9 (_a : Word) (s : State) : Result := s.reserved

/-- RSVQ abs,Y: `42 42 F9` (R249). -/
def execRsvqF9 (_a : Word) (s : State) : Result := s.reserved

/-- RSVQ (bp,X): `42 42 81` (R249). -/
def execRsvq81 (_nn : Byte) (s : State) : Result := s.reserved

/-- RSVQ (bp,X): `42 42 A1` (R249). -/
def execRsvqA1 (_nn : Byte) (s : State) : Result := s.reserved

/-- RSVQ (bp,X): `42 42 C1` (R249). -/
def execRsvqC1 (_nn : Byte) (s : State) : Result := s.reserved

/-- RSVQ (bp,X): `42 42 E1` (R249). -/
def execRsvqE1 (_nn : Byte) (s : State) : Result := s.reserved

/-- RSVQ (bp),Y: `42 42 91` (R249). -/
def execRsvq91 (_nn : Byte) (s : State) : Result := s.reserved

/-- RSVQ (bp),Y: `42 42 D1` (R249). -/
def execRsvqD1 (_nn : Byte) (s : State) : Result := s.reserved

/-- RSVQ (bp),Y: `42 42 F1` (R249). -/
def execRsvqF1 (_nn : Byte) (s : State) : Result := s.reserved

/-- RSVQ (d,SP),Y: `42 42 82` (R249). -/
def execRsvq82 (_nn : Byte) (s : State) : Result := s.reserved

end Sys2Proof.Machine
end

