-- ==== Sys2Proof/Machine/Shift.lean ====
section
/-! DEFINITION. Shifts, rotates, increments and decrements at 8 and 16 bits (`47_base_alu.md` R351 to R371). -/

namespace Sys2Proof.Machine

/-- ASL bp: `06` (R351). -/
def execAslBp (nn : Byte) (s : State) : Result := s.changeMem (.shift .asl) (.bp nn) 2

/-- ASL A: `0A` (R351). -/
def execAslA (s : State) : Result := s.changeReg (.shift .asl) .a 1

/-- ASL abs: `0E` (R351). -/
def execAslAbs (a : Word) (s : State) : Result := s.changeMem (.shift .asl) (.abs a) 3

/-- ASL bp,X: `16` (R351). -/
def execAslBpX (nn : Byte) (s : State) : Result := s.changeMem (.shift .asl) (.bpX nn) 2

/-- INC A: `1A` (R361). -/
def execIncA (s : State) : Result := s.changeReg (.step true) .a 1

/-- INZ: `1B` (R365). -/
def execInz (s : State) : Result := s.changeReg (.step true) .z 1

/-- ASL abs,X: `1E` (R351). -/
def execAslAbsX (a : Word) (s : State) : Result := s.changeMem (.shift .asl) (.absX a) 3

/-- ROL bp: `26` (R353). -/
def execRolBp (nn : Byte) (s : State) : Result := s.changeMem (.shift .rol) (.bp nn) 2

/-- ROL A: `2A` (R353). -/
def execRolA (s : State) : Result := s.changeReg (.shift .rol) .a 1

/-- ROL abs: `2E` (R353). -/
def execRolAbs (a : Word) (s : State) : Result := s.changeMem (.shift .rol) (.abs a) 3

/-- ROL bp,X: `36` (R353). -/
def execRolBpX (nn : Byte) (s : State) : Result := s.changeMem (.shift .rol) (.bpX nn) 2

/-- DEC A: `3A` (R366). -/
def execDecA (s : State) : Result := s.changeReg (.step false) .a 1

/-- DEZ: `3B` (R369). -/
def execDez (s : State) : Result := s.changeReg (.step false) .z 1

/-- ROL abs,X: `3E` (R353). -/
def execRolAbsX (a : Word) (s : State) : Result := s.changeMem (.shift .rol) (.absX a) 3

/-- ASR A: `43` (R355). -/
def execAsrA (s : State) : Result := s.changeReg (.shift .asr) .a 1

/-- ASR bp: `44` (R355). -/
def execAsrBp (nn : Byte) (s : State) : Result := s.changeMem (.shift .asr) (.bp nn) 2

/-- LSR bp: `46` (R352). -/
def execLsrBp (nn : Byte) (s : State) : Result := s.changeMem (.shift .lsr) (.bp nn) 2

/-- LSR A: `4A` (R352). -/
def execLsrA (s : State) : Result := s.changeReg (.shift .lsr) .a 1

/-- LSR abs: `4E` (R352). -/
def execLsrAbs (a : Word) (s : State) : Result := s.changeMem (.shift .lsr) (.abs a) 3

/-- ASR bp,X: `54` (R355). -/
def execAsrBpX (nn : Byte) (s : State) : Result := s.changeMem (.shift .asr) (.bpX nn) 2

/-- LSR bp,X: `56` (R352). -/
def execLsrBpX (nn : Byte) (s : State) : Result := s.changeMem (.shift .lsr) (.bpX nn) 2

/-- LSR abs,X: `5E` (R352). -/
def execLsrAbsX (a : Word) (s : State) : Result := s.changeMem (.shift .lsr) (.absX a) 3

/-- ROR bp: `66` (R354). -/
def execRorBp (nn : Byte) (s : State) : Result := s.changeMem (.shift .ror) (.bp nn) 2

/-- ROR A: `6A` (R354). -/
def execRorA (s : State) : Result := s.changeReg (.shift .ror) .a 1

/-- ROR abs: `6E` (R354). -/
def execRorAbs (a : Word) (s : State) : Result := s.changeMem (.shift .ror) (.abs a) 3

/-- ROR bp,X: `76` (R354). -/
def execRorBpX (nn : Byte) (s : State) : Result := s.changeMem (.shift .ror) (.bpX nn) 2

/-- ROR abs,X: `7E` (R354). -/
def execRorAbsX (a : Word) (s : State) : Result := s.changeMem (.shift .ror) (.absX a) 3

/-- DEY: `88` (R368). -/
def execDey (s : State) : Result := s.changeReg (.step false) .y 1

/-- DEW bp: `C3` (R371). -/
def execDewBp (nn : Byte) (s : State) : Result := s.changeWord (.step false) (.bp nn) 2

/-- DEC bp: `C6` (R362). -/
def execDecBp (nn : Byte) (s : State) : Result := s.changeMem (.step false) (.bp nn) 2

/-- INY: `C8` (R364). -/
def execIny (s : State) : Result := s.changeReg (.step true) .y 1

/-- DEX: `CA` (R367). -/
def execDex (s : State) : Result := s.changeReg (.step false) .x 1

/-- ASW abs: `CB` (R356). -/
def execAswAbs (a : Word) (s : State) : Result := s.changeWord (.shift .asl) (.abs a) 3

/-- DEC abs: `CE` (R362). -/
def execDecAbs (a : Word) (s : State) : Result := s.changeMem (.step false) (.abs a) 3

/-- DEC bp,X: `D6` (R362). -/
def execDecBpX (nn : Byte) (s : State) : Result := s.changeMem (.step false) (.bpX nn) 2

/-- DEC abs,X: `DE` (R362). -/
def execDecAbsX (a : Word) (s : State) : Result := s.changeMem (.step false) (.absX a) 3

/-- INW bp: `E3` (R370). -/
def execInwBp (nn : Byte) (s : State) : Result := s.changeWord (.step true) (.bp nn) 2

/-- INC bp: `E6` (R360). -/
def execIncBp (nn : Byte) (s : State) : Result := s.changeMem (.step true) (.bp nn) 2

/-- INX: `E8` (R363). -/
def execInx (s : State) : Result := s.changeReg (.step true) .x 1

/-- ROW abs: `EB` (R357). -/
def execRowAbs (a : Word) (s : State) : Result := s.changeWord (.shift .rol) (.abs a) 3

/-- INC abs: `EE` (R360). -/
def execIncAbs (a : Word) (s : State) : Result := s.changeMem (.step true) (.abs a) 3

/-- INC bp,X: `F6` (R360). -/
def execIncBpX (nn : Byte) (s : State) : Result := s.changeMem (.step true) (.bpX nn) 2

/-- INC abs,X: `FE` (R360). -/
def execIncAbsX (a : Word) (s : State) : Result := s.changeMem (.step true) (.absX a) 3

end Sys2Proof.Machine
end

