-- ==== Sys2Proof/Machine/Stack.lean ====
section
/-! DEFINITION. The stack instructions (`46_base_load_store_transfer.md` R301 to R311). -/

namespace Sys2Proof.Machine

/-- PHP: `08` (R305). -/
def execPhp (s : State) : Result := s.pushFlags 1

/-- PLP: `28` (R311). -/
def execPlp (s : State) : Result := s.pullFlags 1

/-- PHA: `48` (R301). -/
def execPha (s : State) : Result := s.push .a 1

/-- PHY: `5A` (R303). -/
def execPhy (s : State) : Result := s.push .y 1

/-- PLA: `68` (R306). -/
def execPla (s : State) : Result := s.pull .a 1

/-- PLY: `7A` (R308). -/
def execPly (s : State) : Result := s.pull .y 1

/-- PHX: `DA` (R302). -/
def execPhx (s : State) : Result := s.push .x 1

/-- PHZ: `DB` (R304). -/
def execPhz (s : State) : Result := s.push .z 1

/-- PHW #w: `F4` (R309). -/
def execPhwImmW (w : Word) (s : State) : Result := s.pushWord w 3

/-- PLX: `FA` (R307). -/
def execPlx (s : State) : Result := s.pull .x 1

/-- PLZ: `FB` (R310). -/
def execPlz (s : State) : Result := s.pull .z 1

/-- PHW abs: `FC` (R309). -/
def execPhwAbs (a : Word) (s : State) : Result := s.pushWordAt a 3

end Sys2Proof.Machine
end

