-- ==== Sys2Proof/Machine/System.lean ====
section
/-! DEFINITION. BRK, RTI (`48_base_control.md` R428, R429), MAP and EOM (`45_map_prefix_system.md` R260, R261). -/

namespace Sys2Proof.Machine

/-- BRK: `00` (R429). -/
def execBrk (_sig : Byte) (s : State) : Result := s.brk 2

/-- RTI: `40` (R428). -/
def execRti (s : State) : Result := s.retInterrupt 1

/-- MAP: `5C` (R260). -/
def execMap (s : State) : Result := s.loadMap 1

/-- EOM: `EA` (R261). -/
def execEom (s : State) : Result := s.endMap 1

end Sys2Proof.Machine
end

