-- ==== Sys2Proof/Machine/Transfer.lean ====
section
/-! DEFINITION. The register transfers (`46_base_load_store_transfer.md` R288 to R299). -/

namespace Sys2Proof.Machine

/-- TSY: `0B` (R295). -/
def execTsy (s : State) : Result := s.transferNZ .y .sph 1

/-- TYS: `2B` (R299). -/
def execTys (s : State) : Result := s.transfer .sph .y 1

/-- TAZ: `4B` (R290). -/
def execTaz (s : State) : Result := s.transferNZ .z .a 1

/-- TAB: `5B` (R296). -/
def execTab (s : State) : Result := s.transfer .b .a 1

/-- TZA: `6B` (R293). -/
def execTza (s : State) : Result := s.transferNZ .a .z 1

/-- TBA: `7B` (R297). -/
def execTba (s : State) : Result := s.transferNZ .a .b 1

/-- TXA: `8A` (R291). -/
def execTxa (s : State) : Result := s.transferNZ .a .x 1

/-- TYA: `98` (R292). -/
def execTya (s : State) : Result := s.transferNZ .a .y 1

/-- TXS: `9A` (R298). -/
def execTxs (s : State) : Result := s.transfer .spl .x 1

/-- TAY: `A8` (R289). -/
def execTay (s : State) : Result := s.transferNZ .y .a 1

/-- TAX: `AA` (R288). -/
def execTax (s : State) : Result := s.transferNZ .x .a 1

/-- TSX: `BA` (R294). -/
def execTsx (s : State) : Result := s.transferNZ .x .spl 1

end Sys2Proof.Machine
end

