-- ==== Sys2Proof/Machine/Dispatch.lean ====
section
/-! DEFINITION. The dispatch: one arm for each constructor of `Instr`, each one call of its meaning. -/

namespace Sys2Proof.Machine

open Sys2Proof

def exec (i : Instr) (s : State) : Host.Outcome State Fault Refusal :=
  match i with
  | .brk sig => Sys2Proof.Machine.execBrk sig s
  | .oraBpXInd nn => Sys2Proof.Machine.execOraBpXInd nn s
  | .cle => Sys2Proof.Machine.execCle s
  | .see => Sys2Proof.Machine.execSee s
  | .tsbBp nn => Sys2Proof.Machine.execTsbBp nn s
  | .oraBp nn => Sys2Proof.Machine.execOraBp nn s
  | .aslBp nn => Sys2Proof.Machine.execAslBp nn s
  | .rmb0 nn => Sys2Proof.Machine.execRmb0 nn s
  | .php => Sys2Proof.Machine.execPhp s
  | .oraImm v => Sys2Proof.Machine.execOraImm v s
  | .aslA => Sys2Proof.Machine.execAslA s
  | .tsy => Sys2Proof.Machine.execTsy s
  | .tsbAbs a => Sys2Proof.Machine.execTsbAbs a s
  | .oraAbs a => Sys2Proof.Machine.execOraAbs a s
  | .aslAbs a => Sys2Proof.Machine.execAslAbs a s
  | .bbr0 nn d => Sys2Proof.Machine.execBbr0 nn d s
  | .bplRel d => Sys2Proof.Machine.execBplRel d s
  | .oraBpIndY nn => Sys2Proof.Machine.execOraBpIndY nn s
  | .oraBpIndZ nn => Sys2Proof.Machine.execOraBpIndZ nn s
  | .bplRelW d => Sys2Proof.Machine.execBplRelW d s
  | .trbBp nn => Sys2Proof.Machine.execTrbBp nn s
  | .oraBpX nn => Sys2Proof.Machine.execOraBpX nn s
  | .aslBpX nn => Sys2Proof.Machine.execAslBpX nn s
  | .rmb1 nn => Sys2Proof.Machine.execRmb1 nn s
  | .clc => Sys2Proof.Machine.execClc s
  | .oraAbsY a => Sys2Proof.Machine.execOraAbsY a s
  | .incA => Sys2Proof.Machine.execIncA s
  | .inz => Sys2Proof.Machine.execInz s
  | .trbAbs a => Sys2Proof.Machine.execTrbAbs a s
  | .oraAbsX a => Sys2Proof.Machine.execOraAbsX a s
  | .aslAbsX a => Sys2Proof.Machine.execAslAbsX a s
  | .bbr1 nn d => Sys2Proof.Machine.execBbr1 nn d s
  | .jsrAbs a => Sys2Proof.Machine.execJsrAbs a s
  | .andBpXInd nn => Sys2Proof.Machine.execAndBpXInd nn s
  | .jsrInd a => Sys2Proof.Machine.execJsrInd a s
  | .jsrIndX a => Sys2Proof.Machine.execJsrIndX a s
  | .bitBp nn => Sys2Proof.Machine.execBitBp nn s
  | .andBp nn => Sys2Proof.Machine.execAndBp nn s
  | .rolBp nn => Sys2Proof.Machine.execRolBp nn s
  | .rmb2 nn => Sys2Proof.Machine.execRmb2 nn s
  | .plp => Sys2Proof.Machine.execPlp s
  | .andImm v => Sys2Proof.Machine.execAndImm v s
  | .rolA => Sys2Proof.Machine.execRolA s
  | .tys => Sys2Proof.Machine.execTys s
  | .bitAbs a => Sys2Proof.Machine.execBitAbs a s
  | .andAbs a => Sys2Proof.Machine.execAndAbs a s
  | .rolAbs a => Sys2Proof.Machine.execRolAbs a s
  | .bbr2 nn d => Sys2Proof.Machine.execBbr2 nn d s
  | .bmiRel d => Sys2Proof.Machine.execBmiRel d s
  | .andBpIndY nn => Sys2Proof.Machine.execAndBpIndY nn s
  | .andBpIndZ nn => Sys2Proof.Machine.execAndBpIndZ nn s
  | .bmiRelW d => Sys2Proof.Machine.execBmiRelW d s
  | .bitBpX nn => Sys2Proof.Machine.execBitBpX nn s
  | .andBpX nn => Sys2Proof.Machine.execAndBpX nn s
  | .rolBpX nn => Sys2Proof.Machine.execRolBpX nn s
  | .rmb3 nn => Sys2Proof.Machine.execRmb3 nn s
  | .sec => Sys2Proof.Machine.execSec s
  | .andAbsY a => Sys2Proof.Machine.execAndAbsY a s
  | .decA => Sys2Proof.Machine.execDecA s
  | .dez => Sys2Proof.Machine.execDez s
  | .bitAbsX a => Sys2Proof.Machine.execBitAbsX a s
  | .andAbsX a => Sys2Proof.Machine.execAndAbsX a s
  | .rolAbsX a => Sys2Proof.Machine.execRolAbsX a s
  | .bbr3 nn d => Sys2Proof.Machine.execBbr3 nn d s
  | .rti => Sys2Proof.Machine.execRti s
  | .eorBpXInd nn => Sys2Proof.Machine.execEorBpXInd nn s
  | .neg => Sys2Proof.Machine.execNeg s
  | .asrA => Sys2Proof.Machine.execAsrA s
  | .asrBp nn => Sys2Proof.Machine.execAsrBp nn s
  | .eorBp nn => Sys2Proof.Machine.execEorBp nn s
  | .lsrBp nn => Sys2Proof.Machine.execLsrBp nn s
  | .rmb4 nn => Sys2Proof.Machine.execRmb4 nn s
  | .pha => Sys2Proof.Machine.execPha s
  | .eorImm v => Sys2Proof.Machine.execEorImm v s
  | .lsrA => Sys2Proof.Machine.execLsrA s
  | .taz => Sys2Proof.Machine.execTaz s
  | .jmpAbs a => Sys2Proof.Machine.execJmpAbs a s
  | .eorAbs a => Sys2Proof.Machine.execEorAbs a s
  | .lsrAbs a => Sys2Proof.Machine.execLsrAbs a s
  | .bbr4 nn d => Sys2Proof.Machine.execBbr4 nn d s
  | .bvcRel d => Sys2Proof.Machine.execBvcRel d s
  | .eorBpIndY nn => Sys2Proof.Machine.execEorBpIndY nn s
  | .eorBpIndZ nn => Sys2Proof.Machine.execEorBpIndZ nn s
  | .bvcRelW d => Sys2Proof.Machine.execBvcRelW d s
  | .asrBpX nn => Sys2Proof.Machine.execAsrBpX nn s
  | .eorBpX nn => Sys2Proof.Machine.execEorBpX nn s
  | .lsrBpX nn => Sys2Proof.Machine.execLsrBpX nn s
  | .rmb5 nn => Sys2Proof.Machine.execRmb5 nn s
  | .cli => Sys2Proof.Machine.execCli s
  | .eorAbsY a => Sys2Proof.Machine.execEorAbsY a s
  | .phy => Sys2Proof.Machine.execPhy s
  | .tab => Sys2Proof.Machine.execTab s
  | .map => Sys2Proof.Machine.execMap s
  | .eorAbsX a => Sys2Proof.Machine.execEorAbsX a s
  | .lsrAbsX a => Sys2Proof.Machine.execLsrAbsX a s
  | .bbr5 nn d => Sys2Proof.Machine.execBbr5 nn d s
  | .rts => Sys2Proof.Machine.execRts s
  | .adcBpXInd nn => Sys2Proof.Machine.execAdcBpXInd nn s
  | .rtsImm n => Sys2Proof.Machine.execRtsImm n s
  | .bsrRelW d => Sys2Proof.Machine.execBsrRelW d s
  | .stzBp nn => Sys2Proof.Machine.execStzBp nn s
  | .adcBp nn => Sys2Proof.Machine.execAdcBp nn s
  | .rorBp nn => Sys2Proof.Machine.execRorBp nn s
  | .rmb6 nn => Sys2Proof.Machine.execRmb6 nn s
  | .pla => Sys2Proof.Machine.execPla s
  | .adcImm v => Sys2Proof.Machine.execAdcImm v s
  | .rorA => Sys2Proof.Machine.execRorA s
  | .tza => Sys2Proof.Machine.execTza s
  | .jmpInd a => Sys2Proof.Machine.execJmpInd a s
  | .adcAbs a => Sys2Proof.Machine.execAdcAbs a s
  | .rorAbs a => Sys2Proof.Machine.execRorAbs a s
  | .bbr6 nn d => Sys2Proof.Machine.execBbr6 nn d s
  | .bvsRel d => Sys2Proof.Machine.execBvsRel d s
  | .adcBpIndY nn => Sys2Proof.Machine.execAdcBpIndY nn s
  | .adcBpIndZ nn => Sys2Proof.Machine.execAdcBpIndZ nn s
  | .bvsRelW d => Sys2Proof.Machine.execBvsRelW d s
  | .stzBpX nn => Sys2Proof.Machine.execStzBpX nn s
  | .adcBpX nn => Sys2Proof.Machine.execAdcBpX nn s
  | .rorBpX nn => Sys2Proof.Machine.execRorBpX nn s
  | .rmb7 nn => Sys2Proof.Machine.execRmb7 nn s
  | .sei => Sys2Proof.Machine.execSei s
  | .adcAbsY a => Sys2Proof.Machine.execAdcAbsY a s
  | .ply => Sys2Proof.Machine.execPly s
  | .tba => Sys2Proof.Machine.execTba s
  | .jmpIndX a => Sys2Proof.Machine.execJmpIndX a s
  | .adcAbsX a => Sys2Proof.Machine.execAdcAbsX a s
  | .rorAbsX a => Sys2Proof.Machine.execRorAbsX a s
  | .bbr7 nn d => Sys2Proof.Machine.execBbr7 nn d s
  | .braRel d => Sys2Proof.Machine.execBraRel d s
  | .staBpXInd nn => Sys2Proof.Machine.execStaBpXInd nn s
  | .staSpIndY nn => Sys2Proof.Machine.execStaSpIndY nn s
  | .braRelW d => Sys2Proof.Machine.execBraRelW d s
  | .styBp nn => Sys2Proof.Machine.execStyBp nn s
  | .staBp nn => Sys2Proof.Machine.execStaBp nn s
  | .stxBp nn => Sys2Proof.Machine.execStxBp nn s
  | .smb0 nn => Sys2Proof.Machine.execSmb0 nn s
  | .dey => Sys2Proof.Machine.execDey s
  | .bitImm v => Sys2Proof.Machine.execBitImm v s
  | .txa => Sys2Proof.Machine.execTxa s
  | .styAbsX a => Sys2Proof.Machine.execStyAbsX a s
  | .styAbs a => Sys2Proof.Machine.execStyAbs a s
  | .staAbs a => Sys2Proof.Machine.execStaAbs a s
  | .stxAbs a => Sys2Proof.Machine.execStxAbs a s
  | .bbs0 nn d => Sys2Proof.Machine.execBbs0 nn d s
  | .bccRel d => Sys2Proof.Machine.execBccRel d s
  | .staBpIndY nn => Sys2Proof.Machine.execStaBpIndY nn s
  | .staBpIndZ nn => Sys2Proof.Machine.execStaBpIndZ nn s
  | .bccRelW d => Sys2Proof.Machine.execBccRelW d s
  | .styBpX nn => Sys2Proof.Machine.execStyBpX nn s
  | .staBpX nn => Sys2Proof.Machine.execStaBpX nn s
  | .stxBpY nn => Sys2Proof.Machine.execStxBpY nn s
  | .smb1 nn => Sys2Proof.Machine.execSmb1 nn s
  | .tya => Sys2Proof.Machine.execTya s
  | .staAbsY a => Sys2Proof.Machine.execStaAbsY a s
  | .txs => Sys2Proof.Machine.execTxs s
  | .stxAbsY a => Sys2Proof.Machine.execStxAbsY a s
  | .stzAbs a => Sys2Proof.Machine.execStzAbs a s
  | .staAbsX a => Sys2Proof.Machine.execStaAbsX a s
  | .stzAbsX a => Sys2Proof.Machine.execStzAbsX a s
  | .bbs1 nn d => Sys2Proof.Machine.execBbs1 nn d s
  | .ldyImm v => Sys2Proof.Machine.execLdyImm v s
  | .ldaBpXInd nn => Sys2Proof.Machine.execLdaBpXInd nn s
  | .ldxImm v => Sys2Proof.Machine.execLdxImm v s
  | .ldzImm v => Sys2Proof.Machine.execLdzImm v s
  | .ldyBp nn => Sys2Proof.Machine.execLdyBp nn s
  | .ldaBp nn => Sys2Proof.Machine.execLdaBp nn s
  | .ldxBp nn => Sys2Proof.Machine.execLdxBp nn s
  | .smb2 nn => Sys2Proof.Machine.execSmb2 nn s
  | .tay => Sys2Proof.Machine.execTay s
  | .ldaImm v => Sys2Proof.Machine.execLdaImm v s
  | .tax => Sys2Proof.Machine.execTax s
  | .ldzAbs a => Sys2Proof.Machine.execLdzAbs a s
  | .ldyAbs a => Sys2Proof.Machine.execLdyAbs a s
  | .ldaAbs a => Sys2Proof.Machine.execLdaAbs a s
  | .ldxAbs a => Sys2Proof.Machine.execLdxAbs a s
  | .bbs2 nn d => Sys2Proof.Machine.execBbs2 nn d s
  | .bcsRel d => Sys2Proof.Machine.execBcsRel d s
  | .ldaBpIndY nn => Sys2Proof.Machine.execLdaBpIndY nn s
  | .ldaBpIndZ nn => Sys2Proof.Machine.execLdaBpIndZ nn s
  | .bcsRelW d => Sys2Proof.Machine.execBcsRelW d s
  | .ldyBpX nn => Sys2Proof.Machine.execLdyBpX nn s
  | .ldaBpX nn => Sys2Proof.Machine.execLdaBpX nn s
  | .ldxBpY nn => Sys2Proof.Machine.execLdxBpY nn s
  | .smb3 nn => Sys2Proof.Machine.execSmb3 nn s
  | .clv => Sys2Proof.Machine.execClv s
  | .ldaAbsY a => Sys2Proof.Machine.execLdaAbsY a s
  | .tsx => Sys2Proof.Machine.execTsx s
  | .ldzAbsX a => Sys2Proof.Machine.execLdzAbsX a s
  | .ldyAbsX a => Sys2Proof.Machine.execLdyAbsX a s
  | .ldaAbsX a => Sys2Proof.Machine.execLdaAbsX a s
  | .ldxAbsY a => Sys2Proof.Machine.execLdxAbsY a s
  | .bbs3 nn d => Sys2Proof.Machine.execBbs3 nn d s
  | .cpyImm v => Sys2Proof.Machine.execCpyImm v s
  | .cmpBpXInd nn => Sys2Proof.Machine.execCmpBpXInd nn s
  | .cpzImm v => Sys2Proof.Machine.execCpzImm v s
  | .dewBp nn => Sys2Proof.Machine.execDewBp nn s
  | .cpyBp nn => Sys2Proof.Machine.execCpyBp nn s
  | .cmpBp nn => Sys2Proof.Machine.execCmpBp nn s
  | .decBp nn => Sys2Proof.Machine.execDecBp nn s
  | .smb4 nn => Sys2Proof.Machine.execSmb4 nn s
  | .iny => Sys2Proof.Machine.execIny s
  | .cmpImm v => Sys2Proof.Machine.execCmpImm v s
  | .dex => Sys2Proof.Machine.execDex s
  | .aswAbs a => Sys2Proof.Machine.execAswAbs a s
  | .cpyAbs a => Sys2Proof.Machine.execCpyAbs a s
  | .cmpAbs a => Sys2Proof.Machine.execCmpAbs a s
  | .decAbs a => Sys2Proof.Machine.execDecAbs a s
  | .bbs4 nn d => Sys2Proof.Machine.execBbs4 nn d s
  | .bneRel d => Sys2Proof.Machine.execBneRel d s
  | .cmpBpIndY nn => Sys2Proof.Machine.execCmpBpIndY nn s
  | .cmpBpIndZ nn => Sys2Proof.Machine.execCmpBpIndZ nn s
  | .bneRelW d => Sys2Proof.Machine.execBneRelW d s
  | .cpzBp nn => Sys2Proof.Machine.execCpzBp nn s
  | .cmpBpX nn => Sys2Proof.Machine.execCmpBpX nn s
  | .decBpX nn => Sys2Proof.Machine.execDecBpX nn s
  | .smb5 nn => Sys2Proof.Machine.execSmb5 nn s
  | .cld => Sys2Proof.Machine.execCld s
  | .cmpAbsY a => Sys2Proof.Machine.execCmpAbsY a s
  | .phx => Sys2Proof.Machine.execPhx s
  | .phz => Sys2Proof.Machine.execPhz s
  | .cpzAbs a => Sys2Proof.Machine.execCpzAbs a s
  | .cmpAbsX a => Sys2Proof.Machine.execCmpAbsX a s
  | .decAbsX a => Sys2Proof.Machine.execDecAbsX a s
  | .bbs5 nn d => Sys2Proof.Machine.execBbs5 nn d s
  | .cpxImm v => Sys2Proof.Machine.execCpxImm v s
  | .sbcBpXInd nn => Sys2Proof.Machine.execSbcBpXInd nn s
  | .ldaSpIndY nn => Sys2Proof.Machine.execLdaSpIndY nn s
  | .inwBp nn => Sys2Proof.Machine.execInwBp nn s
  | .cpxBp nn => Sys2Proof.Machine.execCpxBp nn s
  | .sbcBp nn => Sys2Proof.Machine.execSbcBp nn s
  | .incBp nn => Sys2Proof.Machine.execIncBp nn s
  | .smb6 nn => Sys2Proof.Machine.execSmb6 nn s
  | .inx => Sys2Proof.Machine.execInx s
  | .sbcImm v => Sys2Proof.Machine.execSbcImm v s
  | .eom => Sys2Proof.Machine.execEom s
  | .rowAbs a => Sys2Proof.Machine.execRowAbs a s
  | .cpxAbs a => Sys2Proof.Machine.execCpxAbs a s
  | .sbcAbs a => Sys2Proof.Machine.execSbcAbs a s
  | .incAbs a => Sys2Proof.Machine.execIncAbs a s
  | .bbs6 nn d => Sys2Proof.Machine.execBbs6 nn d s
  | .beqRel d => Sys2Proof.Machine.execBeqRel d s
  | .sbcBpIndY nn => Sys2Proof.Machine.execSbcBpIndY nn s
  | .sbcBpIndZ nn => Sys2Proof.Machine.execSbcBpIndZ nn s
  | .beqRelW d => Sys2Proof.Machine.execBeqRelW d s
  | .phwImmW w => Sys2Proof.Machine.execPhwImmW w s
  | .sbcBpX nn => Sys2Proof.Machine.execSbcBpX nn s
  | .incBpX nn => Sys2Proof.Machine.execIncBpX nn s
  | .smb7 nn => Sys2Proof.Machine.execSmb7 nn s
  | .sed => Sys2Proof.Machine.execSed s
  | .sbcAbsY a => Sys2Proof.Machine.execSbcAbsY a s
  | .plx => Sys2Proof.Machine.execPlx s
  | .plz => Sys2Proof.Machine.execPlz s
  | .phwAbs a => Sys2Proof.Machine.execPhwAbs a s
  | .sbcAbsX a => Sys2Proof.Machine.execSbcAbsX a s
  | .incAbsX a => Sys2Proof.Machine.execIncAbsX a s
  | .bbs7 nn d => Sys2Proof.Machine.execBbs7 nn d s
  | .ldqBp nn => Sys2Proof.Machine.execLdqBp nn s
  | .ldqAbs a => Sys2Proof.Machine.execLdqAbs a s
  | .ldqBpIndZ nn => Sys2Proof.Machine.execLdqBpIndZ nn s
  | .stqBp nn => Sys2Proof.Machine.execStqBp nn s
  | .stqAbs a => Sys2Proof.Machine.execStqAbs a s
  | .stqBpInd nn => Sys2Proof.Machine.execStqBpInd nn s
  | .adcqBp nn => Sys2Proof.Machine.execAdcqBp nn s
  | .adcqAbs a => Sys2Proof.Machine.execAdcqAbs a s
  | .adcqBpInd nn => Sys2Proof.Machine.execAdcqBpInd nn s
  | .sbcqBp nn => Sys2Proof.Machine.execSbcqBp nn s
  | .sbcqAbs a => Sys2Proof.Machine.execSbcqAbs a s
  | .sbcqBpInd nn => Sys2Proof.Machine.execSbcqBpInd nn s
  | .cmpqBp nn => Sys2Proof.Machine.execCmpqBp nn s
  | .cmpqAbs a => Sys2Proof.Machine.execCmpqAbs a s
  | .cmpqBpInd nn => Sys2Proof.Machine.execCmpqBpInd nn s
  | .andqBp nn => Sys2Proof.Machine.execAndqBp nn s
  | .andqAbs a => Sys2Proof.Machine.execAndqAbs a s
  | .andqBpInd nn => Sys2Proof.Machine.execAndqBpInd nn s
  | .orqBp nn => Sys2Proof.Machine.execOrqBp nn s
  | .orqAbs a => Sys2Proof.Machine.execOrqAbs a s
  | .orqBpInd nn => Sys2Proof.Machine.execOrqBpInd nn s
  | .eorqBp nn => Sys2Proof.Machine.execEorqBp nn s
  | .eorqAbs a => Sys2Proof.Machine.execEorqAbs a s
  | .eorqBpInd nn => Sys2Proof.Machine.execEorqBpInd nn s
  | .bitqBp nn => Sys2Proof.Machine.execBitqBp nn s
  | .bitqAbs a => Sys2Proof.Machine.execBitqAbs a s
  | .aslqQ => Sys2Proof.Machine.execAslqQ s
  | .aslqBp nn => Sys2Proof.Machine.execAslqBp nn s
  | .aslqBpX nn => Sys2Proof.Machine.execAslqBpX nn s
  | .aslqAbs a => Sys2Proof.Machine.execAslqAbs a s
  | .aslqAbsX a => Sys2Proof.Machine.execAslqAbsX a s
  | .asrqQ => Sys2Proof.Machine.execAsrqQ s
  | .asrqBp nn => Sys2Proof.Machine.execAsrqBp nn s
  | .asrqBpX nn => Sys2Proof.Machine.execAsrqBpX nn s
  | .lsrqQ => Sys2Proof.Machine.execLsrqQ s
  | .lsrqBp nn => Sys2Proof.Machine.execLsrqBp nn s
  | .lsrqBpX nn => Sys2Proof.Machine.execLsrqBpX nn s
  | .lsrqAbs a => Sys2Proof.Machine.execLsrqAbs a s
  | .lsrqAbsX a => Sys2Proof.Machine.execLsrqAbsX a s
  | .rolqQ => Sys2Proof.Machine.execRolqQ s
  | .rolqBp nn => Sys2Proof.Machine.execRolqBp nn s
  | .rolqBpX nn => Sys2Proof.Machine.execRolqBpX nn s
  | .rolqAbs a => Sys2Proof.Machine.execRolqAbs a s
  | .rolqAbsX a => Sys2Proof.Machine.execRolqAbsX a s
  | .rorqQ => Sys2Proof.Machine.execRorqQ s
  | .rorqBp nn => Sys2Proof.Machine.execRorqBp nn s
  | .rorqBpX nn => Sys2Proof.Machine.execRorqBpX nn s
  | .rorqAbs a => Sys2Proof.Machine.execRorqAbs a s
  | .rorqAbsX a => Sys2Proof.Machine.execRorqAbsX a s
  | .inqQ => Sys2Proof.Machine.execInqQ s
  | .inqBp nn => Sys2Proof.Machine.execInqBp nn s
  | .inqBpX nn => Sys2Proof.Machine.execInqBpX nn s
  | .inqAbs a => Sys2Proof.Machine.execInqAbs a s
  | .inqAbsX a => Sys2Proof.Machine.execInqAbsX a s
  | .deqQ => Sys2Proof.Machine.execDeqQ s
  | .deqBp nn => Sys2Proof.Machine.execDeqBp nn s
  | .deqBpX nn => Sys2Proof.Machine.execDeqBpX nn s
  | .deqAbs a => Sys2Proof.Machine.execDeqAbs a s
  | .deqAbsX a => Sys2Proof.Machine.execDeqAbsX a s
  | .oraFarZ nn => Sys2Proof.Machine.execOraFarZ nn s
  | .andFarZ nn => Sys2Proof.Machine.execAndFarZ nn s
  | .eorFarZ nn => Sys2Proof.Machine.execEorFarZ nn s
  | .adcFarZ nn => Sys2Proof.Machine.execAdcFarZ nn s
  | .staFarZ nn => Sys2Proof.Machine.execStaFarZ nn s
  | .ldaFarZ nn => Sys2Proof.Machine.execLdaFarZ nn s
  | .cmpFarZ nn => Sys2Proof.Machine.execCmpFarZ nn s
  | .sbcFarZ nn => Sys2Proof.Machine.execSbcFarZ nn s
  | .orqFar nn => Sys2Proof.Machine.execOrqFar nn s
  | .andqFar nn => Sys2Proof.Machine.execAndqFar nn s
  | .eorqFar nn => Sys2Proof.Machine.execEorqFar nn s
  | .adcqFar nn => Sys2Proof.Machine.execAdcqFar nn s
  | .stqFar nn => Sys2Proof.Machine.execStqFar nn s
  | .ldqFarZ nn => Sys2Proof.Machine.execLdqFarZ nn s
  | .cmpqFar nn => Sys2Proof.Machine.execCmpqFar nn s
  | .sbcqFar nn => Sys2Proof.Machine.execSbcqFar nn s
  | .resq15 nn => Sys2Proof.Machine.execResq15 nn s
  | .resq34 nn => Sys2Proof.Machine.execResq34 nn s
  | .resq35 nn => Sys2Proof.Machine.execResq35 nn s
  | .resq55 nn => Sys2Proof.Machine.execResq55 nn s
  | .resq75 nn => Sys2Proof.Machine.execResq75 nn s
  | .resq1D a => Sys2Proof.Machine.execResq1D a s
  | .resq3C a => Sys2Proof.Machine.execResq3C a s
  | .resq3D a => Sys2Proof.Machine.execResq3D a s
  | .resq5D a => Sys2Proof.Machine.execResq5D a s
  | .resq7D a => Sys2Proof.Machine.execResq7D a s
  | .resq19 a => Sys2Proof.Machine.execResq19 a s
  | .resq39 a => Sys2Proof.Machine.execResq39 a s
  | .resq59 a => Sys2Proof.Machine.execResq59 a s
  | .resq79 a => Sys2Proof.Machine.execResq79 a s
  | .resq01 nn => Sys2Proof.Machine.execResq01 nn s
  | .resq21 nn => Sys2Proof.Machine.execResq21 nn s
  | .resq41 nn => Sys2Proof.Machine.execResq41 nn s
  | .resq61 nn => Sys2Proof.Machine.execResq61 nn s
  | .resq11 nn => Sys2Proof.Machine.execResq11 nn s
  | .resq31 nn => Sys2Proof.Machine.execResq31 nn s
  | .resq51 nn => Sys2Proof.Machine.execResq51 nn s
  | .resq71 nn => Sys2Proof.Machine.execResq71 nn s
  | .rsvq95 nn => Sys2Proof.Machine.execRsvq95 nn s
  | .rsvqD5 nn => Sys2Proof.Machine.execRsvqD5 nn s
  | .rsvqF5 nn => Sys2Proof.Machine.execRsvqF5 nn s
  | .rsvq9D a => Sys2Proof.Machine.execRsvq9D a s
  | .rsvqDD a => Sys2Proof.Machine.execRsvqDD a s
  | .rsvqFD a => Sys2Proof.Machine.execRsvqFD a s
  | .rsvq99 a => Sys2Proof.Machine.execRsvq99 a s
  | .rsvqD9 a => Sys2Proof.Machine.execRsvqD9 a s
  | .rsvqF9 a => Sys2Proof.Machine.execRsvqF9 a s
  | .rsvq81 nn => Sys2Proof.Machine.execRsvq81 nn s
  | .rsvqA1 nn => Sys2Proof.Machine.execRsvqA1 nn s
  | .rsvqC1 nn => Sys2Proof.Machine.execRsvqC1 nn s
  | .rsvqE1 nn => Sys2Proof.Machine.execRsvqE1 nn s
  | .rsvq91 nn => Sys2Proof.Machine.execRsvq91 nn s
  | .rsvqD1 nn => Sys2Proof.Machine.execRsvqD1 nn s
  | .rsvqF1 nn => Sys2Proof.Machine.execRsvqF1 nn s
  | .rsvq82 nn => Sys2Proof.Machine.execRsvq82 nn s

end Sys2Proof.Machine
end

