-- ==== Sys2Proof/Machine/Step.lean ====
section
/-! DEFINITION. One step of the machine (`00_scope.md` R13): the platform's input at the boundary, then one event entry
or one whole instruction with its prefix bytes. -/

noncomputable section

namespace Sys2Proof.Machine

/-- `n` instruction bytes from address `a` on, each with the state after its fetch (R66, R114). -/
def fetchBytes (n : Nat) (a : Word) (s : State) : List (Byte × State) :=
  match n with
  | 0 => []
  | n + 1 =>
    let (b, c) := (Ctx.of s).readTarget .fetch (s.translate .fetch a)
    (b, c.st) :: fetchBytes n (a + 0x0001#16) c.st

/-- The longest instruction (R110). -/
def windowLength : Nat := 5

/-- The bytes the decoder looks ahead at. -/
def State.window (s : State) : List (Byte × State) := fetchBytes windowLength s.pc s

/-- Fetch, decode and run one instruction. Only the instruction's own bytes are fetched: the look-ahead leaves no trace
(R114). Log entry 22. -/
def State.instruction (s : State) : Result :=
  match decode (s.window.map Prod.fst) with
  | .error _ => .refused .unlistedPrefix
  | .ok (i, rest) =>
    match s.window[windowLength - 1 - rest.length]? with
    | some (_, t) => exec i t
    | none => exec i s

/-- One instruction in the current personality: hypervisor mode is always the 4510's (R5, R477). In normal mode the 6502
personality refuses the instruction only; that its event entries are taken is a DESIGN CHOICE, log entry 23. -/
def State.run (s : State) : Result :=
  if s.cfg.personality = .p6502 ∧ s.hyper = false then .refused .personality6502 else s.instruction

/-- The event of this boundary: none right after an event entry, whose handler's first instruction runs first (R459). -/
def State.eventNow (s : State) : Option Event := if s.atEntry then none else s.event

/-- One step (R13, R452). An event is taken whatever the personality (log entry 23). -/
def step (s : State) : Host.Outcome State Fault Refusal :=
  let s := s.accept
  match s.eventNow with
  | some e => .next (s.take e)
  | none => State.run { s with atEntry := false }

/-- A byte stored where CPU-view address `a` is fetched from, if that is a physical address. -/
def State.placeByte (s : State) (a : Word) (v : Byte) : State :=
  match s.translate .fetch a with
  | .phys p => s.setCell p v
  | .portDdr | .portData | .colour _ => s

/-- Bytes stored at consecutive CPU-view addresses. -/
def State.placeBytes (s : State) (a : Word) (bs : List Byte) : State :=
  match bs with
  | [] => s
  | b :: bs => (s.placeByte a b).placeBytes (a + 0x0001#16) bs

/-- The state with a table word stored where `step` fetches its next instruction. Log entry 20. -/
def State.withFetchWord (s : State) (nbits w : Nat) : State := s.placeBytes s.pc (tableBytes nbits w)

end Sys2Proof.Machine

end
end

