-- ==== Sys2Proof/Machine/Forms.lean ====
section
/-! DEFINITION. The forms of instructions: which shared operation an instruction is an instance of, with which operands
and length, as data. Statements speak of all instructions of one form; `Sys2Proof/Laws/Forms.lean` proves that `exec`
runs the form. -/

namespace Sys2Proof.Machine

open Sys2Proof

/-- The forms. `len` is the instruction's length in bytes, prefix bytes included. -/
inductive Form where
  /-- LDA, LDX, LDY, LDZ (R280 to R283, R240). -/
  | load (r : Reg) (src : Source) (len : Nat)
  /-- STA, STX, STY, STZ (R284 to R287, R241). -/
  | store (r : Reg) (m : MemMode) (len : Nat)
  /-- TAX, TAY, TAZ, TXA, TYA, TZA, TSX, TSY, TBA (R288 to R295, R297). -/
  | transferNZ (dst src : Reg) (len : Nat)
  /-- TAB, TXS, TYS (R296, R298, R299). -/
  | transfer (dst src : Reg) (len : Nat)
  /-- PHA, PHX, PHY, PHZ (R301 to R304). -/
  | push (r : Reg) (len : Nat)
  /-- PHP (R305). -/
  | pushFlags (len : Nat)
  /-- PHW # (R309). -/
  | pushWord (w : Word) (len : Nat)
  /-- PHW abs (R309). -/
  | pushWordAt (a : Word) (len : Nat)
  /-- PLA, PLX, PLY, PLZ (R306 to R308, R310). -/
  | pull (r : Reg) (len : Nat)
  /-- PLP (R311). -/
  | pullFlags (len : Nat)
  /-- ADC, SBC, AND, ORA, EOR (R340 to R345, R242, R243, R245 to R247). -/
  | alu (op : AluOp) (src : Source) (len : Nat)
  /-- CMP, CPX, CPY, CPZ (R342, R346 to R348, R244). -/
  | compare (r : Reg) (src : Source) (len : Nat)
  /-- BIT with memory (R349). -/
  | bit (m : MemMode) (len : Nat)
  /-- BIT # (R349). -/
  | bitImm (v : Byte) (len : Nat)
  /-- NEG (R262). -/
  | negate (len : Nat)
  /-- LDQ (R190). -/
  | loadQ (m : MemMode) (len : Nat)
  /-- STQ (R191). -/
  | storeQ (m : MemMode) (len : Nat)
  /-- ADCQ, SBCQ, ANDQ, ORQ, EORQ (R200, R201, R203 to R205). -/
  | aluQ (op : AluOp) (m : MemMode) (len : Nat)
  /-- CMPQ (R202). -/
  | compareQ (m : MemMode) (len : Nat)
  /-- BITQ (R206). -/
  | bitQ (m : MemMode) (len : Nat)
  /-- Shifts of A, and INC, DEC of A, X, Y, Z (R351 to R355, R361, R363 to R369). -/
  | changeReg (ch : Change) (r : Reg) (len : Nat)
  /-- Shifts, INC, DEC of a byte of memory (R351 to R355, R360, R362). -/
  | changeMem (ch : Change) (m : MemMode) (len : Nat)
  /-- TSB, TRB, RMBn, SMBn (R372 to R375). -/
  | bitMem (op : BitOp) (m : MemMode) (len : Nat)
  /-- ASW, ROW, INW, DEW (R356, R357, R370, R371). -/
  | changeWord (ch : Change) (m : MemMode) (len : Nat)
  /-- Q shifts, INQ, DEQ of Q (R220 to R226). -/
  | changeQ (ch : Change) (len : Nat)
  /-- Q shifts, INQ, DEQ of memory (R220 to R226). -/
  | changeMemQ (ch : Change) (m : MemMode) (len : Nat)
  /-- Short branches (R401 to R409, R172). -/
  | branch (k : Cond) (d : Byte) (len : Nat)
  /-- Word branches (R401 to R409, R173). -/
  | branchWord (k : Cond) (d : Word) (len : Nat)
  /-- BSR (R410). -/
  | branchSub (d : Word) (len : Nat)
  /-- BBRn, BBSn (R415). -/
  | branchBit (on : Bool) (n : Fin 8) (nn d : Byte) (len : Nat)
  /-- JMP (R420 to R422). -/
  | jump (t : JumpTarget) (len : Nat)
  /-- JSR (R423 to R425). -/
  | call (t : JumpTarget) (len : Nat)
  /-- RTS, RTS #n (R426, R427). -/
  | ret (n : Byte) (len : Nat)
  /-- RTI (R428). -/
  | retInterrupt (len : Nat)
  /-- BRK (R429). -/
  | brk (len : Nat)
  /-- CLC, SEC, CLI, SEI, CLD, SED, CLV, CLE, SEE (R430 to R438). -/
  | flag (op : FlagOp) (len : Nat)
  /-- MAP (R260). -/
  | loadMap (len : Nat)
  /-- EOM (R261). -/
  | endMap (len : Nat)
  /-- RESQ, RSVQ (R248, R249). -/
  | reserved (len : Nat)
  deriving DecidableEq, Repr

/-- What a form does. -/
def Form.run (f : Form) (s : State) : Result :=
  match f with
  | .load r src len => s.load r src len
  | .store r m len => s.store r m len
  | .transferNZ dst src len => s.transferNZ dst src len
  | .transfer dst src len => s.transfer dst src len
  | .push r len => s.push r len
  | .pushFlags len => s.pushFlags len
  | .pushWord w len => s.pushWord w len
  | .pushWordAt a len => s.pushWordAt a len
  | .pull r len => s.pull r len
  | .pullFlags len => s.pullFlags len
  | .alu op src len => s.alu op src len
  | .compare r src len => s.compare r src len
  | .bit m len => s.bit m len
  | .bitImm v len => s.bitImm v len
  | .negate len => s.negate len
  | .loadQ m len => s.loadQ m len
  | .storeQ m len => s.storeQ m len
  | .aluQ op m len => s.aluQ op m len
  | .compareQ m len => s.compareQ m len
  | .bitQ m len => s.bitQ m len
  | .changeReg ch r len => s.changeReg ch r len
  | .changeMem ch m len => s.changeMem ch m len
  | .bitMem op m len => s.bitMem op m len
  | .changeWord ch m len => s.changeWord ch m len
  | .changeQ ch len => s.changeQ ch len
  | .changeMemQ ch m len => s.changeMemQ ch m len
  | .branch k d len => s.branch k d len
  | .branchWord k d len => s.branchWord k d len
  | .branchSub d len => s.branchSub d len
  | .branchBit on n nn d len => s.branchBit on n nn d len
  | .jump t len => s.jump t len
  | .call t len => s.call t len
  | .ret n len => s.ret n len
  | .retInterrupt len => s.retInterrupt len
  | .brk len => s.brk len
  | .flag op len => s.flag op len
  | .loadMap len => s.loadMap len
  | .endMap len => s.endMap len
  | .reserved _ => s.reserved

/-- The length of a form's instructions. -/
def Form.len (f : Form) : Nat :=
  match f with
  | .load _ _ len => len
  | .store _ _ len => len
  | .transferNZ _ _ len => len
  | .transfer _ _ len => len
  | .push _ len => len
  | .pushFlags len => len
  | .pushWord _ len => len
  | .pushWordAt _ len => len
  | .pull _ len => len
  | .pullFlags len => len
  | .alu _ _ len => len
  | .compare _ _ len => len
  | .bit _ len => len
  | .bitImm _ len => len
  | .negate len => len
  | .loadQ _ len => len
  | .storeQ _ len => len
  | .aluQ _ _ len => len
  | .compareQ _ len => len
  | .bitQ _ len => len
  | .changeReg _ _ len => len
  | .changeMem _ _ len => len
  | .bitMem _ _ len => len
  | .changeWord _ _ len => len
  | .changeQ _ len => len
  | .changeMemQ _ _ len => len
  | .branch _ _ len => len
  | .branchWord _ _ len => len
  | .branchSub _ len => len
  | .branchBit _ _ _ _ len => len
  | .jump _ len => len
  | .call _ len => len
  | .ret _ len => len
  | .retInterrupt len => len
  | .brk len => len
  | .flag _ len => len
  | .loadMap len => len
  | .endMap len => len
  | .reserved len => len

/-- The form of an instruction. -/
def formOf (i : Instr) : Form :=
  match i with
  | .brk _ => .brk 2
  | .oraBpXInd nn => .alu .ora (.mem (.bpXInd nn)) 2
  | .cle => .flag .cle 1
  | .see => .flag .see 1
  | .tsbBp nn => .bitMem .tsb (.bp nn) 2
  | .oraBp nn => .alu .ora (.mem (.bp nn)) 2
  | .aslBp nn => .changeMem (.shift .asl) (.bp nn) 2
  | .rmb0 nn => .bitMem (.rmb 0) (.bp nn) 2
  | .php => .pushFlags 1
  | .oraImm v => .alu .ora (.imm v) 2
  | .aslA => .changeReg (.shift .asl) .a 1
  | .tsy => .transferNZ .y .sph 1
  | .tsbAbs a => .bitMem .tsb (.abs a) 3
  | .oraAbs a => .alu .ora (.mem (.abs a)) 3
  | .aslAbs a => .changeMem (.shift .asl) (.abs a) 3
  | .bbr0 nn d => .branchBit false 0 nn d 3
  | .bplRel d => .branch .pl d 2
  | .oraBpIndY nn => .alu .ora (.mem (.bpIndY nn)) 2
  | .oraBpIndZ nn => .alu .ora (.mem (.bpIndZ nn)) 2
  | .bplRelW d => .branchWord .pl d 3
  | .trbBp nn => .bitMem .trb (.bp nn) 2
  | .oraBpX nn => .alu .ora (.mem (.bpX nn)) 2
  | .aslBpX nn => .changeMem (.shift .asl) (.bpX nn) 2
  | .rmb1 nn => .bitMem (.rmb 1) (.bp nn) 2
  | .clc => .flag .clc 1
  | .oraAbsY a => .alu .ora (.mem (.absY a)) 3
  | .incA => .changeReg (.step true) .a 1
  | .inz => .changeReg (.step true) .z 1
  | .trbAbs a => .bitMem .trb (.abs a) 3
  | .oraAbsX a => .alu .ora (.mem (.absX a)) 3
  | .aslAbsX a => .changeMem (.shift .asl) (.absX a) 3
  | .bbr1 nn d => .branchBit false 1 nn d 3
  | .jsrAbs a => .call (.abs a) 3
  | .andBpXInd nn => .alu .and (.mem (.bpXInd nn)) 2
  | .jsrInd a => .call (.ind a) 3
  | .jsrIndX a => .call (.indX a) 3
  | .bitBp nn => .bit (.bp nn) 2
  | .andBp nn => .alu .and (.mem (.bp nn)) 2
  | .rolBp nn => .changeMem (.shift .rol) (.bp nn) 2
  | .rmb2 nn => .bitMem (.rmb 2) (.bp nn) 2
  | .plp => .pullFlags 1
  | .andImm v => .alu .and (.imm v) 2
  | .rolA => .changeReg (.shift .rol) .a 1
  | .tys => .transfer .sph .y 1
  | .bitAbs a => .bit (.abs a) 3
  | .andAbs a => .alu .and (.mem (.abs a)) 3
  | .rolAbs a => .changeMem (.shift .rol) (.abs a) 3
  | .bbr2 nn d => .branchBit false 2 nn d 3
  | .bmiRel d => .branch .mi d 2
  | .andBpIndY nn => .alu .and (.mem (.bpIndY nn)) 2
  | .andBpIndZ nn => .alu .and (.mem (.bpIndZ nn)) 2
  | .bmiRelW d => .branchWord .mi d 3
  | .bitBpX nn => .bit (.bpX nn) 2
  | .andBpX nn => .alu .and (.mem (.bpX nn)) 2
  | .rolBpX nn => .changeMem (.shift .rol) (.bpX nn) 2
  | .rmb3 nn => .bitMem (.rmb 3) (.bp nn) 2
  | .sec => .flag .sec 1
  | .andAbsY a => .alu .and (.mem (.absY a)) 3
  | .decA => .changeReg (.step false) .a 1
  | .dez => .changeReg (.step false) .z 1
  | .bitAbsX a => .bit (.absX a) 3
  | .andAbsX a => .alu .and (.mem (.absX a)) 3
  | .rolAbsX a => .changeMem (.shift .rol) (.absX a) 3
  | .bbr3 nn d => .branchBit false 3 nn d 3
  | .rti => .retInterrupt 1
  | .eorBpXInd nn => .alu .eor (.mem (.bpXInd nn)) 2
  | .neg => .negate 1
  | .asrA => .changeReg (.shift .asr) .a 1
  | .asrBp nn => .changeMem (.shift .asr) (.bp nn) 2
  | .eorBp nn => .alu .eor (.mem (.bp nn)) 2
  | .lsrBp nn => .changeMem (.shift .lsr) (.bp nn) 2
  | .rmb4 nn => .bitMem (.rmb 4) (.bp nn) 2
  | .pha => .push .a 1
  | .eorImm v => .alu .eor (.imm v) 2
  | .lsrA => .changeReg (.shift .lsr) .a 1
  | .taz => .transferNZ .z .a 1
  | .jmpAbs a => .jump (.abs a) 3
  | .eorAbs a => .alu .eor (.mem (.abs a)) 3
  | .lsrAbs a => .changeMem (.shift .lsr) (.abs a) 3
  | .bbr4 nn d => .branchBit false 4 nn d 3
  | .bvcRel d => .branch .vc d 2
  | .eorBpIndY nn => .alu .eor (.mem (.bpIndY nn)) 2
  | .eorBpIndZ nn => .alu .eor (.mem (.bpIndZ nn)) 2
  | .bvcRelW d => .branchWord .vc d 3
  | .asrBpX nn => .changeMem (.shift .asr) (.bpX nn) 2
  | .eorBpX nn => .alu .eor (.mem (.bpX nn)) 2
  | .lsrBpX nn => .changeMem (.shift .lsr) (.bpX nn) 2
  | .rmb5 nn => .bitMem (.rmb 5) (.bp nn) 2
  | .cli => .flag .cli 1
  | .eorAbsY a => .alu .eor (.mem (.absY a)) 3
  | .phy => .push .y 1
  | .tab => .transfer .b .a 1
  | .map => .loadMap 1
  | .eorAbsX a => .alu .eor (.mem (.absX a)) 3
  | .lsrAbsX a => .changeMem (.shift .lsr) (.absX a) 3
  | .bbr5 nn d => .branchBit false 5 nn d 3
  | .rts => .ret 0x00#8 1
  | .adcBpXInd nn => .alu .adc (.mem (.bpXInd nn)) 2
  | .rtsImm n => .ret n 2
  | .bsrRelW d => .branchSub d 3
  | .stzBp nn => .store .z (.bp nn) 2
  | .adcBp nn => .alu .adc (.mem (.bp nn)) 2
  | .rorBp nn => .changeMem (.shift .ror) (.bp nn) 2
  | .rmb6 nn => .bitMem (.rmb 6) (.bp nn) 2
  | .pla => .pull .a 1
  | .adcImm v => .alu .adc (.imm v) 2
  | .rorA => .changeReg (.shift .ror) .a 1
  | .tza => .transferNZ .a .z 1
  | .jmpInd a => .jump (.ind a) 3
  | .adcAbs a => .alu .adc (.mem (.abs a)) 3
  | .rorAbs a => .changeMem (.shift .ror) (.abs a) 3
  | .bbr6 nn d => .branchBit false 6 nn d 3
  | .bvsRel d => .branch .vs d 2
  | .adcBpIndY nn => .alu .adc (.mem (.bpIndY nn)) 2
  | .adcBpIndZ nn => .alu .adc (.mem (.bpIndZ nn)) 2
  | .bvsRelW d => .branchWord .vs d 3
  | .stzBpX nn => .store .z (.bpX nn) 2
  | .adcBpX nn => .alu .adc (.mem (.bpX nn)) 2
  | .rorBpX nn => .changeMem (.shift .ror) (.bpX nn) 2
  | .rmb7 nn => .bitMem (.rmb 7) (.bp nn) 2
  | .sei => .flag .sei 1
  | .adcAbsY a => .alu .adc (.mem (.absY a)) 3
  | .ply => .pull .y 1
  | .tba => .transferNZ .a .b 1
  | .jmpIndX a => .jump (.indX a) 3
  | .adcAbsX a => .alu .adc (.mem (.absX a)) 3
  | .rorAbsX a => .changeMem (.shift .ror) (.absX a) 3
  | .bbr7 nn d => .branchBit false 7 nn d 3
  | .braRel d => .branch .always d 2
  | .staBpXInd nn => .store .a (.bpXInd nn) 2
  | .staSpIndY nn => .store .a (.spIndY nn) 2
  | .braRelW d => .branchWord .always d 3
  | .styBp nn => .store .y (.bp nn) 2
  | .staBp nn => .store .a (.bp nn) 2
  | .stxBp nn => .store .x (.bp nn) 2
  | .smb0 nn => .bitMem (.smb 0) (.bp nn) 2
  | .dey => .changeReg (.step false) .y 1
  | .bitImm v => .bitImm v 2
  | .txa => .transferNZ .a .x 1
  | .styAbsX a => .store .y (.absX a) 3
  | .styAbs a => .store .y (.abs a) 3
  | .staAbs a => .store .a (.abs a) 3
  | .stxAbs a => .store .x (.abs a) 3
  | .bbs0 nn d => .branchBit true 0 nn d 3
  | .bccRel d => .branch .cc d 2
  | .staBpIndY nn => .store .a (.bpIndY nn) 2
  | .staBpIndZ nn => .store .a (.bpIndZ nn) 2
  | .bccRelW d => .branchWord .cc d 3
  | .styBpX nn => .store .y (.bpX nn) 2
  | .staBpX nn => .store .a (.bpX nn) 2
  | .stxBpY nn => .store .x (.bpY nn) 2
  | .smb1 nn => .bitMem (.smb 1) (.bp nn) 2
  | .tya => .transferNZ .a .y 1
  | .staAbsY a => .store .a (.absY a) 3
  | .txs => .transfer .spl .x 1
  | .stxAbsY a => .store .x (.absY a) 3
  | .stzAbs a => .store .z (.abs a) 3
  | .staAbsX a => .store .a (.absX a) 3
  | .stzAbsX a => .store .z (.absX a) 3
  | .bbs1 nn d => .branchBit true 1 nn d 3
  | .ldyImm v => .load .y (.imm v) 2
  | .ldaBpXInd nn => .load .a (.mem (.bpXInd nn)) 2
  | .ldxImm v => .load .x (.imm v) 2
  | .ldzImm v => .load .z (.imm v) 2
  | .ldyBp nn => .load .y (.mem (.bp nn)) 2
  | .ldaBp nn => .load .a (.mem (.bp nn)) 2
  | .ldxBp nn => .load .x (.mem (.bp nn)) 2
  | .smb2 nn => .bitMem (.smb 2) (.bp nn) 2
  | .tay => .transferNZ .y .a 1
  | .ldaImm v => .load .a (.imm v) 2
  | .tax => .transferNZ .x .a 1
  | .ldzAbs a => .load .z (.mem (.abs a)) 3
  | .ldyAbs a => .load .y (.mem (.abs a)) 3
  | .ldaAbs a => .load .a (.mem (.abs a)) 3
  | .ldxAbs a => .load .x (.mem (.abs a)) 3
  | .bbs2 nn d => .branchBit true 2 nn d 3
  | .bcsRel d => .branch .cs d 2
  | .ldaBpIndY nn => .load .a (.mem (.bpIndY nn)) 2
  | .ldaBpIndZ nn => .load .a (.mem (.bpIndZ nn)) 2
  | .bcsRelW d => .branchWord .cs d 3
  | .ldyBpX nn => .load .y (.mem (.bpX nn)) 2
  | .ldaBpX nn => .load .a (.mem (.bpX nn)) 2
  | .ldxBpY nn => .load .x (.mem (.bpY nn)) 2
  | .smb3 nn => .bitMem (.smb 3) (.bp nn) 2
  | .clv => .flag .clv 1
  | .ldaAbsY a => .load .a (.mem (.absY a)) 3
  | .tsx => .transferNZ .x .spl 1
  | .ldzAbsX a => .load .z (.mem (.absX a)) 3
  | .ldyAbsX a => .load .y (.mem (.absX a)) 3
  | .ldaAbsX a => .load .a (.mem (.absX a)) 3
  | .ldxAbsY a => .load .x (.mem (.absY a)) 3
  | .bbs3 nn d => .branchBit true 3 nn d 3
  | .cpyImm v => .compare .y (.imm v) 2
  | .cmpBpXInd nn => .compare .a (.mem (.bpXInd nn)) 2
  | .cpzImm v => .compare .z (.imm v) 2
  | .dewBp nn => .changeWord (.step false) (.bp nn) 2
  | .cpyBp nn => .compare .y (.mem (.bp nn)) 2
  | .cmpBp nn => .compare .a (.mem (.bp nn)) 2
  | .decBp nn => .changeMem (.step false) (.bp nn) 2
  | .smb4 nn => .bitMem (.smb 4) (.bp nn) 2
  | .iny => .changeReg (.step true) .y 1
  | .cmpImm v => .compare .a (.imm v) 2
  | .dex => .changeReg (.step false) .x 1
  | .aswAbs a => .changeWord (.shift .asl) (.abs a) 3
  | .cpyAbs a => .compare .y (.mem (.abs a)) 3
  | .cmpAbs a => .compare .a (.mem (.abs a)) 3
  | .decAbs a => .changeMem (.step false) (.abs a) 3
  | .bbs4 nn d => .branchBit true 4 nn d 3
  | .bneRel d => .branch .ne d 2
  | .cmpBpIndY nn => .compare .a (.mem (.bpIndY nn)) 2
  | .cmpBpIndZ nn => .compare .a (.mem (.bpIndZ nn)) 2
  | .bneRelW d => .branchWord .ne d 3
  | .cpzBp nn => .compare .z (.mem (.bp nn)) 2
  | .cmpBpX nn => .compare .a (.mem (.bpX nn)) 2
  | .decBpX nn => .changeMem (.step false) (.bpX nn) 2
  | .smb5 nn => .bitMem (.smb 5) (.bp nn) 2
  | .cld => .flag .cld 1
  | .cmpAbsY a => .compare .a (.mem (.absY a)) 3
  | .phx => .push .x 1
  | .phz => .push .z 1
  | .cpzAbs a => .compare .z (.mem (.abs a)) 3
  | .cmpAbsX a => .compare .a (.mem (.absX a)) 3
  | .decAbsX a => .changeMem (.step false) (.absX a) 3
  | .bbs5 nn d => .branchBit true 5 nn d 3
  | .cpxImm v => .compare .x (.imm v) 2
  | .sbcBpXInd nn => .alu .sbc (.mem (.bpXInd nn)) 2
  | .ldaSpIndY nn => .load .a (.mem (.spIndY nn)) 2
  | .inwBp nn => .changeWord (.step true) (.bp nn) 2
  | .cpxBp nn => .compare .x (.mem (.bp nn)) 2
  | .sbcBp nn => .alu .sbc (.mem (.bp nn)) 2
  | .incBp nn => .changeMem (.step true) (.bp nn) 2
  | .smb6 nn => .bitMem (.smb 6) (.bp nn) 2
  | .inx => .changeReg (.step true) .x 1
  | .sbcImm v => .alu .sbc (.imm v) 2
  | .eom => .endMap 1
  | .rowAbs a => .changeWord (.shift .rol) (.abs a) 3
  | .cpxAbs a => .compare .x (.mem (.abs a)) 3
  | .sbcAbs a => .alu .sbc (.mem (.abs a)) 3
  | .incAbs a => .changeMem (.step true) (.abs a) 3
  | .bbs6 nn d => .branchBit true 6 nn d 3
  | .beqRel d => .branch .eq d 2
  | .sbcBpIndY nn => .alu .sbc (.mem (.bpIndY nn)) 2
  | .sbcBpIndZ nn => .alu .sbc (.mem (.bpIndZ nn)) 2
  | .beqRelW d => .branchWord .eq d 3
  | .phwImmW w => .pushWord w 3
  | .sbcBpX nn => .alu .sbc (.mem (.bpX nn)) 2
  | .incBpX nn => .changeMem (.step true) (.bpX nn) 2
  | .smb7 nn => .bitMem (.smb 7) (.bp nn) 2
  | .sed => .flag .sed 1
  | .sbcAbsY a => .alu .sbc (.mem (.absY a)) 3
  | .plx => .pull .x 1
  | .plz => .pull .z 1
  | .phwAbs a => .pushWordAt a 3
  | .sbcAbsX a => .alu .sbc (.mem (.absX a)) 3
  | .incAbsX a => .changeMem (.step true) (.absX a) 3
  | .bbs7 nn d => .branchBit true 7 nn d 3
  | .ldqBp nn => .loadQ (.bp nn) 4
  | .ldqAbs a => .loadQ (.abs a) 5
  | .ldqBpIndZ nn => .loadQ (.bpIndZ nn) 4
  | .stqBp nn => .storeQ (.bp nn) 4
  | .stqAbs a => .storeQ (.abs a) 5
  | .stqBpInd nn => .storeQ (.bpInd nn) 4
  | .adcqBp nn => .aluQ .adc (.bp nn) 4
  | .adcqAbs a => .aluQ .adc (.abs a) 5
  | .adcqBpInd nn => .aluQ .adc (.bpInd nn) 4
  | .sbcqBp nn => .aluQ .sbc (.bp nn) 4
  | .sbcqAbs a => .aluQ .sbc (.abs a) 5
  | .sbcqBpInd nn => .aluQ .sbc (.bpInd nn) 4
  | .cmpqBp nn => .compareQ (.bp nn) 4
  | .cmpqAbs a => .compareQ (.abs a) 5
  | .cmpqBpInd nn => .compareQ (.bpInd nn) 4
  | .andqBp nn => .aluQ .and (.bp nn) 4
  | .andqAbs a => .aluQ .and (.abs a) 5
  | .andqBpInd nn => .aluQ .and (.bpInd nn) 4
  | .orqBp nn => .aluQ .ora (.bp nn) 4
  | .orqAbs a => .aluQ .ora (.abs a) 5
  | .orqBpInd nn => .aluQ .ora (.bpInd nn) 4
  | .eorqBp nn => .aluQ .eor (.bp nn) 4
  | .eorqAbs a => .aluQ .eor (.abs a) 5
  | .eorqBpInd nn => .aluQ .eor (.bpInd nn) 4
  | .bitqBp nn => .bitQ (.bp nn) 4
  | .bitqAbs a => .bitQ (.abs a) 5
  | .aslqQ => .changeQ (.shift .asl) 3
  | .aslqBp nn => .changeMemQ (.shift .asl) (.bp nn) 4
  | .aslqBpX nn => .changeMemQ (.shift .asl) (.bpX nn) 4
  | .aslqAbs a => .changeMemQ (.shift .asl) (.abs a) 5
  | .aslqAbsX a => .changeMemQ (.shift .asl) (.absX a) 5
  | .asrqQ => .changeQ (.shift .asr) 3
  | .asrqBp nn => .changeMemQ (.shift .asr) (.bp nn) 4
  | .asrqBpX nn => .changeMemQ (.shift .asr) (.bpX nn) 4
  | .lsrqQ => .changeQ (.shift .lsr) 3
  | .lsrqBp nn => .changeMemQ (.shift .lsr) (.bp nn) 4
  | .lsrqBpX nn => .changeMemQ (.shift .lsr) (.bpX nn) 4
  | .lsrqAbs a => .changeMemQ (.shift .lsr) (.abs a) 5
  | .lsrqAbsX a => .changeMemQ (.shift .lsr) (.absX a) 5
  | .rolqQ => .changeQ (.shift .rol) 3
  | .rolqBp nn => .changeMemQ (.shift .rol) (.bp nn) 4
  | .rolqBpX nn => .changeMemQ (.shift .rol) (.bpX nn) 4
  | .rolqAbs a => .changeMemQ (.shift .rol) (.abs a) 5
  | .rolqAbsX a => .changeMemQ (.shift .rol) (.absX a) 5
  | .rorqQ => .changeQ (.shift .ror) 3
  | .rorqBp nn => .changeMemQ (.shift .ror) (.bp nn) 4
  | .rorqBpX nn => .changeMemQ (.shift .ror) (.bpX nn) 4
  | .rorqAbs a => .changeMemQ (.shift .ror) (.abs a) 5
  | .rorqAbsX a => .changeMemQ (.shift .ror) (.absX a) 5
  | .inqQ => .changeQ (.step true) 3
  | .inqBp nn => .changeMemQ (.step true) (.bp nn) 4
  | .inqBpX nn => .changeMemQ (.step true) (.bpX nn) 4
  | .inqAbs a => .changeMemQ (.step true) (.abs a) 5
  | .inqAbsX a => .changeMemQ (.step true) (.absX a) 5
  | .deqQ => .changeQ (.step false) 3
  | .deqBp nn => .changeMemQ (.step false) (.bp nn) 4
  | .deqBpX nn => .changeMemQ (.step false) (.bpX nn) 4
  | .deqAbs a => .changeMemQ (.step false) (.abs a) 5
  | .deqAbsX a => .changeMemQ (.step false) (.absX a) 5
  | .oraFarZ nn => .alu .ora (.mem (.farZ nn)) 3
  | .andFarZ nn => .alu .and (.mem (.farZ nn)) 3
  | .eorFarZ nn => .alu .eor (.mem (.farZ nn)) 3
  | .adcFarZ nn => .alu .adc (.mem (.farZ nn)) 3
  | .staFarZ nn => .store .a (.farZ nn) 3
  | .ldaFarZ nn => .load .a (.mem (.farZ nn)) 3
  | .cmpFarZ nn => .compare .a (.mem (.farZ nn)) 3
  | .sbcFarZ nn => .alu .sbc (.mem (.farZ nn)) 3
  | .orqFar nn => .aluQ .ora (.far nn) 5
  | .andqFar nn => .aluQ .and (.far nn) 5
  | .eorqFar nn => .aluQ .eor (.far nn) 5
  | .adcqFar nn => .aluQ .adc (.far nn) 5
  | .stqFar nn => .storeQ (.far nn) 5
  | .ldqFarZ nn => .loadQ (.farZ nn) 5
  | .cmpqFar nn => .compareQ (.far nn) 5
  | .sbcqFar nn => .aluQ .sbc (.far nn) 5
  | .resq15 _ => .reserved 4
  | .resq34 _ => .reserved 4
  | .resq35 _ => .reserved 4
  | .resq55 _ => .reserved 4
  | .resq75 _ => .reserved 4
  | .resq1D _ => .reserved 5
  | .resq3C _ => .reserved 5
  | .resq3D _ => .reserved 5
  | .resq5D _ => .reserved 5
  | .resq7D _ => .reserved 5
  | .resq19 _ => .reserved 5
  | .resq39 _ => .reserved 5
  | .resq59 _ => .reserved 5
  | .resq79 _ => .reserved 5
  | .resq01 _ => .reserved 4
  | .resq21 _ => .reserved 4
  | .resq41 _ => .reserved 4
  | .resq61 _ => .reserved 4
  | .resq11 _ => .reserved 4
  | .resq31 _ => .reserved 4
  | .resq51 _ => .reserved 4
  | .resq71 _ => .reserved 4
  | .rsvq95 _ => .reserved 4
  | .rsvqD5 _ => .reserved 4
  | .rsvqF5 _ => .reserved 4
  | .rsvq9D _ => .reserved 5
  | .rsvqDD _ => .reserved 5
  | .rsvqFD _ => .reserved 5
  | .rsvq99 _ => .reserved 5
  | .rsvqD9 _ => .reserved 5
  | .rsvqF9 _ => .reserved 5
  | .rsvq81 _ => .reserved 4
  | .rsvqA1 _ => .reserved 4
  | .rsvqC1 _ => .reserved 4
  | .rsvqE1 _ => .reserved 4
  | .rsvq91 _ => .reserved 4
  | .rsvqD1 _ => .reserved 4
  | .rsvqF1 _ => .reserved 4
  | .rsvq82 _ => .reserved 4

end Sys2Proof.Machine
end

