-- ==== Sys2Proof/Safety.lean ====
section
/-! DEFINITION. The terms claims are stated in: reads without side effects, data addresses they give, writes that
replace one byte of memory, the byte accesses an instruction makes, and the invariant of the state. Nothing here is part of the machine. -/

namespace Sys2Proof.Machine

/-! ### Plain reads: the byte is known and reading it changes nothing -/

/-- The byte a data read of physical address `p` gives, if it is memory or a register inside the CPU. -/
def State.peekPhys (s : State) (p : Phys) : Option Byte :=
  match s.kindOf p with
  | .io off =>
    match s.ioReg off with
    | .virt n => if s.hyper && s.hregStored n then some (s.hregAt n) else none
    | .speedBias => some s.speedBias
    | .colour k => s.readCell (colourWindow k)
    | .d030 | .device => none
  | .hyperMem | .rom | .ram | .platform => s.readCell p

/-- The byte a data read of a data address gives, if the read is plain. -/
def State.peek (s : State) (pl : Place) : Option Byte :=
  match s.target .read pl with
  | .phys p => s.peekPhys p
  | .portDdr => some s.portDdr
  | .portData => some s.portEff
  | .colour k => s.readCell (colourWindow k)

/-- A plain 16-bit read. -/
def State.peek16 (s : State) (pl : Place) : Option Word :=
  match s.peek pl, s.peek (pl.plus 1) with
  | some lo, some hi => some (hi ++ lo)
  | _, _ => none

/-- A plain 32-bit read. -/
def State.peek32 (s : State) (pl : Place) : Option Quad :=
  match s.peek pl, s.peek (pl.plus 1), s.peek (pl.plus 2), s.peek (pl.plus 3) with
  | some b0, some b1, some b2, some b3 => some (b3 ++ b2 ++ b1 ++ b0)
  | _, _, _, _ => none

/-- The 16-bit pointer at a base-page offset, if its bytes are plain. -/
def State.ptr16 (s : State) (nn : Byte) : Option Word :=
  match s.peek (.cpu (s.bpAddr nn)), s.peek (.cpu (s.bpAddr (nn + 0x01#8))) with
  | some lo, some hi => some (hi ++ lo)
  | _, _ => none

/-- The 32-bit pointer at a base-page offset, if its bytes are plain. -/
def State.ptr32 (s : State) (nn : Byte) : Option Quad :=
  match s.peek (.cpu (s.bpAddr nn)), s.peek (.cpu (s.bpAddr (nn + 0x01#8))),
      s.peek (.cpu (s.bpAddr (nn + 0x02#8))), s.peek (.cpu (s.bpAddr (nn + 0x03#8))) with
  | some b0, some b1, some b2, some b3 => some (b3 ++ b2 ++ b1 ++ b0)
  | _, _, _, _ => none

/-- The effective address of a mode, if the pointer it reads is plain (R145 to R171). -/
def State.place (s : State) (m : MemMode) : Option Place :=
  match m with
  | .bp nn => some (.cpu (s.bpAddr nn))
  | .bpX nn => some (.cpu (s.bpAddr (nn + s.x)))
  | .bpY nn => some (.cpu (s.bpAddr (nn + s.y)))
  | .abs a => some (.cpu a)
  | .absX a => some (.cpu (a + s.x.setWidth 16))
  | .absY a => some (.cpu (a + s.y.setWidth 16))
  | .bpXInd nn => (s.ptr16 (nn + s.x)).map fun p => .cpu p
  | .bpIndY nn => (s.ptr16 nn).map fun p => .cpu (p + s.y.setWidth 16)
  | .bpIndZ nn => (s.ptr16 nn).map fun p => .cpu (p + s.z.setWidth 16)
  | .bpInd nn => (s.ptr16 nn).map fun p => .cpu p
  | .farZ nn => (s.ptr32 nn).map fun p => .flat (p + s.z.setWidth 32)
  | .far nn => (s.ptr32 nn).map fun p => .flat p
  | .spIndY nn => (s.peek16 (.cpu (s.sp + nn.setWidth 16))).map fun p => .cpu (p + s.y.setWidth 16)

/-- The operand of an 8-bit instruction, if it is immediate or its reads are plain. -/
def State.value (s : State) (src : Source) : Option Byte :=
  match src with
  | .imm v => some v
  | .mem m => (s.place m).bind s.peek

/-- The destination of a jump or call, if its reads are plain (R420 to R425). -/
def State.destination (s : State) (t : JumpTarget) : Option Word :=
  match t with
  | .abs a => some a
  | .ind a => s.peek16 (.cpu a)
  | .indX a => s.peek16 (.cpu (a + s.x.setWidth 16))

/-! ### Writes that replace one byte of memory -/

/-- The physical address that a data write replaces, if it is RAM, or hypervisor memory in hypervisor mode. -/
def State.ramAt (s : State) (pl : Place) : Option Phys :=
  match s.target .write pl with
  | .phys p =>
    match s.kindOf p with
    | .ram => some p
    | .hyperMem => if s.hyper then some p else none
    | .io _ | .rom | .platform => none
  | .portDdr | .portData | .colour _ => none

/-- Whether the platform answers the reads of `p` and acts on its writes: an address that is no memory, or a device of
the I/O block (R73, R81). -/
def State.isDevice (s : State) (p : Phys) : Bool :=
  match s.kindOf p with
  | .platform => true
  | .io off => s.ioReg off == .device
  | .hyperMem | .rom | .ram => false

/-- PC moved past an instruction of `len` bytes. -/
def State.advance (s : State) (len : Nat) : State := { s with pc := s.pc + BitVec.ofNat 16 len }

/-- SP moved by `d`: inside its page with E = 1, over 16 bits with E = 0 (R26, R31, R300). -/
def State.spPlus (s : State) (d : Word) : Word :=
  if s.fl.e then s.sph ++ (s.spl + d.setWidth 8) else (s.sph ++ s.spl) + d

/-- The state with SP set. -/
def State.withSp (s : State) (w : Word) : State := { s with sph := w.extractLsb' 8 8, spl := w.extractLsb' 0 8 }

/-- The state with bytes of memory replaced, in order. -/
def State.storeAll (s : State) (ws : List (Phys × Byte)) : State := ws.foldl (fun s w => s.setCell w.1 w.2) s

/-- Every byte of memory reads in `t` as in `s`, but for the bytes stored, of which a later one wins. -/
def Writes (s t : State) (ws : List (Phys × Byte)) : Prop :=
  ∀ a : Nat, Memory.read t.mem a = ws.foldl (fun v w => if a = w.1.toNat then w.2 else v) (Memory.read s.mem a)

/-! ### Plain instruction bytes -/

/-- The byte a fetch from a CPU-view address gives, if it is memory or the CPU port. -/
def State.codeByte (s : State) (a : Word) : Option Byte :=
  match s.translate .fetch a with
  | .phys p =>
    match s.kindOf p with
    | .io _ => none
    | .hyperMem | .rom | .ram | .platform => s.readCell p
  | .portDdr => some s.portDdr
  | .portData => some s.portEff
  | .colour k => s.readCell (colourWindow k)

/-- Whether the bytes from `a` on are `bs`, all of them plain. -/
def State.codeAt (s : State) (a : Word) (bs : List Byte) : Bool :=
  match bs with
  | [] => true
  | b :: bs => s.codeByte a == some b && s.codeAt (a + 0x0001#16) bs

/-- An instruction, its bytes and its form. -/
def Encodes (i : Instr) (bytes : List Byte) (f : Form) : Prop := encode i = bytes ∧ formOf i = f

/-! ### The byte accesses of an instruction

Each byte that an instruction's meaning reads or writes as data, in order, with the machine as it is right before: the
addresses are computed by the meaning's own functions, applied to what the meaning applies them to. -/

/-- One byte access. -/
structure Site where
  /-- The machine right before the access. -/
  ctx : Ctx
  acc : Access
  place : Place

/-- An access made now. -/
def Ctx.site (acc : Access) (pl : Place) (c : Ctx) : Site := ⟨c, acc, pl⟩

/-- The physical address an access resolves to, if it is not the CPU port or the colour RAM window (R66, R76). -/
def Site.phys (x : Site) : Option Phys :=
  match x.ctx.st.target x.acc x.place with
  | .phys p => some p
  | .portDdr | .portData | .colour _ => none

/-- The access resolves to offset `off` of the I/O block in the I/O mode `mega65`. -/
def Site.atMega65 (x : Site) (off : BitVec 12) : Prop :=
  x.ctx.st.ioMode = ioMega65 ∧ ∃ p, x.phys = some p ∧ x.ctx.st.kindOf p = .io off

/-- A write of `$D67F` in hypervisor mode (R480). -/
def Site.exits (x : Site) : Prop := x.acc = .write ∧ x.ctx.st.hyper = true ∧ x.atMega65 0x67F#12

/-- A data access of `$D640 + n` in normal mode: a write, or a read if `SyscallOnRead` (R74, R461). -/
def Site.syscalls (x : Site) (n : BitVec 6) : Prop :=
  (x.acc = .write ∨ (x.acc = .read ∧ x.ctx.st.cfg.syscallOnRead = true)) ∧ x.ctx.st.hyper = false ∧
    x.atMega65 (0x640#12 + n.setWidth 12)

/-- `o` is the lowest number of `ns`, if there is one (R193, D27). -/
def Lowest (ns : BitVec 6 → Prop) (o : Option (BitVec 6)) : Prop :=
  ∀ n, o = some n ↔ ns n ∧ ∀ m, ns m → n.toNat ≤ m.toNat

/-- The accesses of `Ctx.read16`. -/
def Ctx.reads16 (pl : Place) (c : Ctx) : List Site := [c.site .read pl, (c.read8 pl).2.site .read (pl.plus 1)]

/-- The accesses of `Ctx.read32`. -/
def Ctx.reads32 (pl : Place) (c : Ctx) : List Site :=
  let c1 := (c.read8 pl).2
  let c2 := (c1.read8 (pl.plus 1)).2
  let c3 := (c2.read8 (pl.plus 2)).2
  [c.site .read pl, c1.site .read (pl.plus 1), c2.site .read (pl.plus 2), c3.site .read (pl.plus 3)]

/-- The accesses of `Ctx.write16`. -/
def Ctx.writes16 (pl : Place) (v : Word) (c : Ctx) : List Site :=
  [c.site .write pl, (c.write8 pl (v.extractLsb' 0 8)).site .write (pl.plus 1)]

/-- The accesses of `Ctx.write32`. -/
def Ctx.writes32 (pl : Place) (v : Quad) (c : Ctx) : List Site :=
  let c1 := c.write8 pl (v.extractLsb' 0 8)
  let c2 := c1.write8 (pl.plus 1) (v.extractLsb' 8 8)
  let c3 := c2.write8 (pl.plus 2) (v.extractLsb' 16 8)
  [c.site .write pl, c1.site .write (pl.plus 1), c2.site .write (pl.plus 2), c3.site .write (pl.plus 3)]

/-- The access of `Ctx.push8`. -/
def Ctx.pushes8 (c : Ctx) : List Site := [c.site .write (.cpu c.st.sp)]

/-- The accesses of `Ctx.push16`. -/
def Ctx.pushes16 (w : Word) (c : Ctx) : List Site := c.pushes8 ++ (c.push8 (w.extractLsb' 8 8)).pushes8

/-- The access of `Ctx.pull8`. -/
def Ctx.pulls8 (c : Ctx) : List Site :=
  let c := c.upd fun s => s.moveSp 0x0001#16
  [c.site .read (.cpu c.st.sp)]

/-- The accesses of `Ctx.pull16`. -/
def Ctx.pulls16 (c : Ctx) : List Site := c.pulls8 ++ c.pull8.2.pulls8

/-- The accesses of `Ctx.pointer16`. -/
def Ctx.pointers16 (nn : Byte) (c : Ctx) : List Site :=
  let c1 := (c.read8 (.cpu (c.st.bpAddr nn))).2
  [c.site .read (.cpu (c.st.bpAddr nn)), c1.site .read (.cpu (c1.st.bpAddr (nn + 0x01#8)))]

/-- The accesses of `Ctx.pointer32`. -/
def Ctx.pointers32 (nn : Byte) (c : Ctx) : List Site :=
  let c1 := (c.read8 (.cpu (c.st.bpAddr nn))).2
  let c2 := (c1.read8 (.cpu (c1.st.bpAddr (nn + 0x01#8)))).2
  let c3 := (c2.read8 (.cpu (c2.st.bpAddr (nn + 0x02#8)))).2
  [c.site .read (.cpu (c.st.bpAddr nn)), c1.site .read (.cpu (c1.st.bpAddr (nn + 0x01#8))),
    c2.site .read (.cpu (c2.st.bpAddr (nn + 0x02#8))), c3.site .read (.cpu (c3.st.bpAddr (nn + 0x03#8)))]

/-- The accesses of `Ctx.ea`: those of the pointer the mode reads. -/
def Ctx.eaSites (m : MemMode) (c : Ctx) : List Site :=
  match m with
  | .bp _ | .bpX _ | .bpY _ | .abs _ | .absX _ | .absY _ => []
  | .bpXInd nn => c.pointers16 (nn + c.st.x)
  | .bpIndY nn | .bpIndZ nn | .bpInd nn => c.pointers16 nn
  | .farZ nn | .far nn => c.pointers32 nn
  | .spIndY nn => c.reads16 (.cpu (c.st.sp + nn.setWidth 16))

/-- The accesses of `Ctx.operand`. -/
def Ctx.operandSites (src : Source) (c : Ctx) : List Site :=
  match src with
  | .imm _ => []
  | .mem m => c.eaSites m ++ [(c.ea m).2.site .read (c.ea m).1]

/-- The accesses of a mode's pointer and of the four bytes read there. -/
def Ctx.quadSites (m : MemMode) (c : Ctx) : List Site := c.eaSites m ++ (c.ea m).2.reads32 (c.ea m).1

/-- The accesses of `Ctx.jumpTarget`. -/
def Ctx.jumpSites (t : JumpTarget) (c : Ctx) : List Site :=
  match t with
  | .abs _ => []
  | .ind a => c.reads16 (.cpu a)
  | .indX a => c.reads16 (.cpu (a + c.st.x.setWidth 16))

/-- The accesses of `Ctx.interrupt`. -/
def Ctx.interruptSites (vector ret : Word) (brk : Bool) (c : Ctx) : List Site :=
  let c1 := c.push16 ret
  let c2 := c1.push8 (c1.st.fl.pack brk)
  c.pushes16 ret ++ c1.pushes8 ++
    (c2.upd fun s => { s with fl := { s.fl with i := true, d := if s.cfg.intClearsD then false else s.fl.d } }).reads16
      (.cpu vector)

/-- The access of `Ctx.writeBack`. -/
def Ctx.writeBackSites (always : Bool) (pl : Place) (c : Ctx) : List Site :=
  if c.st.dummyWrite always pl then [c.site .write pl] else []

/-- The accesses of `State.rmw8`. -/
def State.rmw8Sites (always : Bool) (f : State → Byte → Byte × Flags) (m : MemMode) (len : Nat) (s : State) : List Site :=
  let c0 := Ctx.start len s
  let (pl, c1) := c0.ea m
  let (v, c2) := c1.read8 pl
  let c3 := c2.writeBack always pl v
  c0.eaSites m ++ [c1.site .read pl] ++ c2.writeBackSites always pl ++
    [(c3.upd fun s => { s with fl := (f c3.st v).2 }).site .write pl]

/-- The accesses of `State.changeWord`. -/
def State.changeWordSites (ch : Change) (m : MemMode) (len : Nat) (s : State) : List Site :=
  let c0 := Ctx.start len s
  let (pl, c1) := c0.ea m
  let (v, c2) := c1.read16 pl
  let c3 := c2.writeBack false pl (v.extractLsb' 0 8)
  c0.eaSites m ++ c1.reads16 pl ++ c2.writeBackSites false pl ++
    (c3.upd fun s => { s with fl := (ch.apply c3.st.fl v).2 }).writes16 pl (ch.apply c3.st.fl v).1

/-- The accesses of `State.changeMemQ`. -/
def State.changeMemQSites (ch : Change) (m : MemMode) (len : Nat) (s : State) : List Site :=
  let c0 := Ctx.start len s
  let (pl, c1) := c0.ea m
  let (v, c2) := c1.read32 pl
  c0.quadSites m ++ (c2.upd fun s => { s with fl := (ch.apply c2.st.fl v).2 }).writes32 pl (ch.apply c2.st.fl v).1

/-- The data accesses of an instruction of a form, in order. -/
def Form.sites (f : Form) (s : State) : List Site :=
  match f with
  | .transferNZ _ _ _ | .transfer _ _ _ | .bitImm _ _ | .negate _ | .changeReg _ _ _ | .changeQ _ _ | .branch _ _ _
  | .branchWord _ _ _ | .flag _ _ | .loadMap _ | .endMap _ | .reserved _ => []
  | .load _ src len | .alu _ src len | .compare _ src len => (Ctx.start len s).operandSites src
  | .bit m len => (Ctx.start len s).operandSites (.mem m)
  | .branchBit _ _ nn _ len => (Ctx.start len s).operandSites (.mem (.bp nn))
  | .store _ m len =>
    let (pl, c) := (Ctx.start len s).ea m
    (Ctx.start len s).eaSites m ++ [c.site .write pl]
  | .push _ len | .pushFlags len => (Ctx.start len s).pushes8
  | .pushWord w len => (Ctx.start len s).pushes16 w
  | .pushWordAt a len =>
    let (w, c) := (Ctx.start len s).read16 (.cpu a)
    (Ctx.start len s).reads16 (.cpu a) ++ c.pushes16 w
  | .pull _ len | .pullFlags len => (Ctx.start len s).pulls8
  | .loadQ m len | .aluQ _ m len | .compareQ m len | .bitQ m len => (Ctx.start len s).quadSites m
  | .storeQ m len =>
    let (pl, c) := (Ctx.start len s).ea m
    (Ctx.start len s).eaSites m ++ c.writes32 pl c.st.q
  | .changeMem ch m len => s.rmw8Sites ch.always (fun s v => ch.apply s.fl v) m len
  | .bitMem op m len => s.rmw8Sites false (fun s v => op.apply s.a s.fl v) m len
  | .changeWord ch m len => s.changeWordSites ch m len
  | .changeMemQ ch m len => s.changeMemQSites ch m len
  | .branchSub _ len => (Ctx.start len s).pushes16 (s.pc + 0x0002#16)
  | .jump t len => (Ctx.start len s).jumpSites t
  | .call t len =>
    let w := s.pc + 0x0002#16
    (Ctx.start len s).pushes16 w ++ ((Ctx.start len s).push16 w).jumpSites t
  | .ret _ len => (Ctx.start len s).pulls16
  | .retInterrupt len =>
    let (v, c) := (Ctx.start len s).pull8
    (Ctx.start len s).pulls8 ++ (c.upd fun s => { s with fl := s.fl.pulled v }).pulls16
  | .brk len => (Ctx.start len s).interruptSites vectorIrq (s.pc + 0x0002#16) true

/-! ### The invariant of the state -/

/-- Memory is in canonical form and inside the 28-bit physical space (R60), and the parameters are what the rules ask of
them (R472, R476). -/
structure Inv (s : State) : Prop where
  canonical : Memory.wf s.mem
  inSpace : ∀ c ∈ s.mem, c.1 < 2 ^ 28
  parameters : s.cfg.wf = true

end Sys2Proof.Machine
end

