-- ==== Sys2Proof/Certificates/Slice0/Obligations.lean ====
section
/-! DEFINITION. The statements for the provers, in the order of `OBLIGATIONS.json`. "Plain" reads and writes are those of
`Sys2Proof/Safety.lean`, which include the spec's own decisions D4, D7, D16, D23 and D26 and log entries 8, 15 and 16; a
state equation says the whole frame: every field it does not name is unchanged. -/

open Sys2Proof Sys2Proof.Machine

/-- O1. Decoding the bytes of an instruction gives it back, with the bytes that follow. R110 to R117, R120: for every instruction and every operand value, the decoder reads the encoder's bytes as that instruction and leaves the bytes that follow. -/
def Obligations.DecodeOfEncode : Prop :=
  ∀ (i : Instr) (rest : List Byte), i.wf rest = true → decode (encode i ++ rest) = .ok (i, rest)

/-- O2. Bytes that decode are the bytes of the instruction they decode to. R110 to R118: no two byte sequences of an instruction mean the same, and no byte of one is dropped. -/
def Obligations.EncodeOfDecode : Prop :=
  ∀ (bs : List Byte) (i : Instr) (rest : List Byte), decode bs = .ok (i, rest) → bs = encode i ++ rest ∧ i.wf rest = true

/-- O3. Every byte sequence but an unlisted Q combination is an instruction. R122 (no illegal opcode); R115, R117 and R120, whose opcodes are written out by the number of their operand bytes; R121 and D22 (unlisted prefixed combinations are refused). For three bytes or more; fewer may end inside an instruction. -/
def Obligations.DecodeTotality : Prop :=
  let bare : List Byte :=
    [0x0A#8, 0x43#8, 0x4A#8, 0x2A#8, 0x6A#8, 0x1A#8, 0x3A#8]
  let one : List Byte :=
    [0xA5#8, 0xB2#8, 0x85#8, 0x92#8, 0x65#8, 0x72#8, 0xE5#8, 0xF2#8, 0xC5#8, 0xD2#8, 0x25#8, 0x32#8, 0x05#8,
     0x12#8, 0x45#8, 0x52#8, 0x24#8, 0x06#8, 0x16#8, 0x44#8, 0x54#8, 0x46#8, 0x56#8, 0x26#8, 0x36#8, 0x66#8,
     0x76#8, 0xE6#8, 0xF6#8, 0xC6#8, 0xD6#8]
  let two : List Byte :=
    [0xAD#8, 0x8D#8, 0x6D#8, 0xED#8, 0xCD#8, 0x2D#8, 0x0D#8, 0x4D#8, 0x2C#8, 0x0E#8, 0x1E#8, 0x4E#8, 0x5E#8,
     0x2E#8, 0x3E#8, 0x6E#8, 0x7E#8, 0xEE#8, 0xFE#8, 0xCE#8, 0xDE#8]
  let reservedOne : List Byte :=
    [0x15#8, 0x34#8, 0x35#8, 0x55#8, 0x75#8, 0x01#8, 0x21#8, 0x41#8, 0x61#8, 0x11#8, 0x31#8, 0x51#8, 0x71#8,
     0x95#8, 0xD5#8, 0xF5#8, 0x81#8, 0xA1#8, 0xC1#8, 0xE1#8, 0x91#8, 0xD1#8, 0xF1#8, 0x82#8]
  let reservedTwo : List Byte :=
    [0x1D#8, 0x3C#8, 0x3D#8, 0x5D#8, 0x7D#8, 0x19#8, 0x39#8, 0x59#8, 0x79#8, 0x9D#8, 0xDD#8, 0xFD#8, 0x99#8,
     0xD9#8, 0xF9#8]
  let far : List Byte :=
    [0x12#8, 0x32#8, 0x52#8, 0x72#8, 0x92#8, 0xB2#8, 0xD2#8, 0xF2#8]
  let listed := bare ++ one ++ two ++ reservedOne ++ reservedTwo
  (∀ (b0 b1 b2 : Byte) (rest : List Byte), ¬(b0 = 0x42#8 ∧ b1 = 0x42#8) →
      ∃ i r, decode (b0 :: b1 :: b2 :: rest) = .ok (i, r)) ∧
  (bare ++ one ++ two).length = 59 ∧ (reservedOne ++ reservedTwo).length = 39 ∧ listed.Nodup ∧
  (quadMap ++ reservedMap).length = 98 ∧ (∀ op : Byte, op ∈ (quadMap ++ reservedMap).map Prod.fst ↔ op ∈ listed) ∧
  (∀ op ∈ bare, ∀ rest : List Byte, ∃ i, decode (0x42#8 :: 0x42#8 :: op :: rest) = .ok (i, rest)) ∧
  (∀ op ∈ one ++ reservedOne, ∀ (nn : Byte) (rest : List Byte),
      ∃ i, decode (0x42#8 :: 0x42#8 :: op :: nn :: rest) = .ok (i, rest)) ∧
  (∀ op ∈ two ++ reservedTwo, ∀ (ll hh : Byte) (rest : List Byte),
      ∃ i, decode (0x42#8 :: 0x42#8 :: op :: ll :: hh :: rest) = .ok (i, rest)) ∧
  (∀ op ∈ far, ∀ (nn : Byte) (rest : List Byte),
      ∃ i, decode (0x42#8 :: 0x42#8 :: 0xEA#8 :: op :: nn :: rest) = .ok (i, rest)) ∧
  (∀ (op : Byte) (rest : List Byte), op ≠ 0xEA#8 → op ∉ listed →
      decode (0x42#8 :: 0x42#8 :: op :: rest) = .error (.unlistedQuad op)) ∧
  (∀ (op : Byte) (rest : List Byte), op ∉ far →
      decode (0x42#8 :: 0x42#8 :: 0xEA#8 :: op :: rest) = .error (.unlistedQuadFar op))

/-- O4. Words written out from the spec decode to the instructions they stand for. The spec's own examples of R112, R115 to R118 and R120; a sanity statement. -/
def Obligations.SampleWords : Prop :=
  decode [0xA9#8, 0x05#8] = .ok (.ldaImm 0x05#8, []) ∧
  decode [0xAD#8, 0x34#8, 0x12#8] = .ok (.ldaAbs 0x1234#16, []) ∧
  decode [0xF4#8, 0x34#8, 0x12#8] = .ok (.phwImmW 0x1234#16, []) ∧
  decode [0x85#8, 0x12#8] = .ok (.staBp 0x12#8, []) ∧
  decode [0xD0#8, 0xFE#8] = .ok (.bneRel 0xFE#8, []) ∧
  decode [0x5C#8] = .ok (.map, []) ∧
  decode [0xEA#8] = .ok (.eom, []) ∧
  decode [0x42#8] = .ok (.neg, []) ∧
  decode [0x42#8, 0x42#8, 0xAD#8, 0x34#8, 0x12#8] = .ok (.ldqAbs 0x1234#16, []) ∧
  decode [0xEA#8, 0xB2#8, 0x45#8] = .ok (.ldaFarZ 0x45#8, []) ∧
  decode [0x42#8, 0x42#8, 0xEA#8, 0xB2#8, 0x45#8] = .ok (.ldqFarZ 0x45#8, []) ∧
  decode [0x42#8, 0x42#8, 0x15#8, 0x10#8] = .ok (.resq15 0x10#8, [])

/-- O5. An instruction is 1 to 5 bytes, as many as the length its form carries. R110, R111. A statement about the encoding only; the result statements say where PC goes, with this length. -/
def Obligations.EncodedLength : Prop :=
  ∀ i : Instr, (encode i).length = (formOf i).len ∧ 1 ≤ (encode i).length ∧ (encode i).length ≤ 5

/-- O6. A step with no event runs the instruction that the bytes at PC decode to. R13, R114, R452: the only bridge from a run to the per-instruction statements. PC is moved by `exec` itself. Two clauses are the model's: that t is the state after the fetch of i's own bytes alone, the look-ahead without effect (log entry 22), and that the 4510 personality or hypervisor mode is what it takes to run (log entry 23). -/
def Obligations.StepRunsDecoded : Prop :=
  ∀ (s t : State) (i : Instr) (b : Byte) (rest : List Byte),
    s.accept.eventNow = none →
    let u := { s.accept with atEntry := false }
    u.cfg.personality = .p4510 ∨ u.hyper = true →
    decode (u.window.map Prod.fst) = .ok (i, rest) →
    u.window[4 - rest.length]? = some (b, t) →
    step s = exec i t ∧ (u.codeAt u.pc (u.window.map Prod.fst) = true → t = u)

/-- O7. Which event a step takes, by priority: reset, SYSCALL, platform trap, NMI, IRQ. R452 to R459, R478 (D34, D35): the spec's own choices of priority and masking; the boundary marks are the model's (log entries 13, 14). -/
def Obligations.EventTaken : Prop :=
  (∀ (s : State) (e : Event), s.accept.eventNow = some e → step s = .next (s.accept.take e)) ∧
  (∀ s : State, s.atEntry = true → s.eventNow = none) ∧
  ∀ s : State, s.atEntry = false →
    (s.eventNow = some .reset ↔ s.resetLine = true) ∧
    (∀ n, s.eventNow = some (.syscall n) ↔ s.resetLine = false ∧ s.hyper = false ∧ s.syscall = some n) ∧
    (∀ n, s.eventNow = some (.trap n) ↔
      s.resetLine = false ∧ s.hyper = false ∧ s.syscall = none ∧ s.trapRequest = some n) ∧
    (s.eventNow = some .nmi ↔
      s.resetLine = false ∧ s.hyper = false ∧ s.syscall = none ∧ s.trapRequest = none ∧ s.mapInhibit = false ∧
        s.nmiPending = true) ∧
    (s.eventNow = some .irq ↔
      s.resetLine = false ∧ s.hyper = false ∧ s.syscall = none ∧ s.trapRequest = none ∧ s.mapInhibit = false ∧
        s.nmiPending = false ∧ s.irqLine = true ∧ s.fl.i = false)

/-- O8. Every instruction completes in every state, but RESQ and RSVQ, and ADCQ and SBCQ with D = 1. R451: no instruction of the 4510 personality raises a synchronous fault. -/
def Obligations.EveryInstructionCompletes : Prop :=
  ∀ (i : Instr) (s : State), (∀ n, formOf i ≠ .reserved n) →
    (s.fl.d = true → ∀ m n, formOf i ≠ .aluQ .adc m n ∧ formOf i ≠ .aluQ .sbc m n) →
    ∃ t, exec i s = .next t

/-- O9. The 39 reserved Q encodings are refused by name. R120, R248, R249 (U3): "A model treats the execution of any of them as refused". -/
def Obligations.ReservedRefused : Prop :=
  ∀ op ∈ ([0x15#8, 0x34#8, 0x35#8, 0x55#8, 0x75#8, 0x1D#8, 0x3C#8, 0x3D#8, 0x5D#8, 0x7D#8, 0x19#8, 0x39#8, 0x59#8,
      0x79#8, 0x01#8, 0x21#8, 0x41#8, 0x61#8, 0x11#8, 0x31#8, 0x51#8, 0x71#8, 0x95#8, 0xD5#8, 0xF5#8, 0x9D#8, 0xDD#8,
      0xFD#8, 0x99#8, 0xD9#8, 0xF9#8, 0x81#8, 0xA1#8, 0xC1#8, 0xE1#8, 0x91#8, 0xD1#8, 0xF1#8, 0x82#8] : List Byte),
    ∀ (v w : Byte), ∃ i rest, decode [0x42#8, 0x42#8, op, v, w] = .ok (i, rest) ∧
      ∀ s : State, exec i s = .refused .reservedEncoding

/-- O10. LDA, LDX, LDY, LDZ: the register, N and Z, and nothing else. R280 to R283, R240 (addresses by the spec's decisions D7, D16, D23, D26; plain reads of $01 and of the colour RAM by log entries 15, 16). Covers every constructor whose form is `load`: LDA, LDX, LDY, LDZ in all modes, LDA [bp],Z included. -/
def Obligations.LoadResult : Prop :=
  ∀ (i : Instr) (s : State) (r : Reg) (src : Source) (len : Nat) (v : Byte),
    formOf i = .load r src len → s.value src = some v →
    exec i s = .next
      { (s.advance len).setReg r v with fl := { s.fl with n := v.getLsbD 7, z := v == 0x00#8 } }

/-- O11. STA, STX, STY, STZ to RAM: one byte, and nothing else. R284 to R287, R241 (addresses by D7, D16, D23, D26). Covers every constructor whose form is `store`; stores elsewhere than RAM are in CpuRegisterStores, PhysicalAccess and SyscallAccess. -/
def Obligations.StoreResult : Prop :=
  ∀ (i : Instr) (s : State) (r : Reg) (m : MemMode) (len : Nat) (pl : Place) (p : Phys),
    formOf i = .store r m len → s.place m = some pl → s.ramAt pl = some p →
    let t := (s.advance len).storeAll [(p, s.reg r)]
    exec i s = .next t ∧ Writes s t [(p, s.reg r)]

/-- O12. The twelve register transfers: each destination and source, and which set N and Z. R288 to R299, one clause for each instruction. -/
def Obligations.TransferResult : Prop :=
  ∀ s : State,
    let f : Byte → Flags := fun v => { s.fl with n := v.getLsbD 7, z := v == 0x00#8 }
    exec .tax s = .next { s.advance 1 with x := s.a, fl := f s.a } ∧
    exec .tay s = .next { s.advance 1 with y := s.a, fl := f s.a } ∧
    exec .taz s = .next { s.advance 1 with z := s.a, fl := f s.a } ∧
    exec .txa s = .next { s.advance 1 with a := s.x, fl := f s.x } ∧
    exec .tya s = .next { s.advance 1 with a := s.y, fl := f s.y } ∧
    exec .tza s = .next { s.advance 1 with a := s.z, fl := f s.z } ∧
    exec .tsx s = .next { s.advance 1 with x := s.spl, fl := f s.spl } ∧
    exec .tsy s = .next { s.advance 1 with y := s.sph, fl := f s.sph } ∧
    exec .tba s = .next { s.advance 1 with a := s.b, fl := f s.b } ∧
    exec .tab s = .next { s.advance 1 with b := s.a } ∧
    exec .txs s = .next { s.advance 1 with spl := s.x } ∧
    exec .tys s = .next { s.advance 1 with sph := s.y }

/-- O13. PHA, PHX, PHY, PHZ, PHP with the stack in RAM: one byte at SP, then SP down. R300 to R305; the bits of P are R28's, with 1 in the B position. -/
def Obligations.PushResult : Prop :=
  ∀ (i : Instr) (s : State) (p : Phys) (v : Byte) (len : Nat), s.ramAt (.cpu (s.sph ++ s.spl)) = some p →
    ((∃ r, formOf i = .push r len ∧ v = s.reg r) ∨
      (formOf i = .pushFlags len ∧
        [v.getLsbD 7, v.getLsbD 6, v.getLsbD 5, v.getLsbD 4, v.getLsbD 3, v.getLsbD 2, v.getLsbD 1, v.getLsbD 0] =
          [s.fl.n, s.fl.v, s.fl.e, true, s.fl.d, s.fl.i, s.fl.z, s.fl.c])) →
    let t := ((s.advance len).storeAll [(p, v)]).withSp (s.spPlus 0xFFFF#16)
    exec i s = .next t ∧ Writes s t [(p, v)]

/-- O14. PHW: two bytes, the high one first, and SP down by two. R300, R309. -/
def Obligations.PushWordResult : Prop :=
  ∀ (i : Instr) (s : State) (w : Word) (p0 p1 : Phys) (len : Nat),
    s.ramAt (.cpu (s.sph ++ s.spl)) = some p0 → s.ramAt (.cpu (s.spPlus 0xFFFF#16)) = some p1 →
    (formOf i = .pushWord w len ∨ ∃ a, formOf i = .pushWordAt a len ∧ s.peek16 (.cpu a) = some w) →
    let ws := [(p0, highByte w), (p1, lowByte w)]
    let t := ((s.advance len).storeAll ws).withSp (s.spPlus 0xFFFE#16)
    exec i s = .next t ∧ Writes s t ws

/-- O15. PLA, PLX, PLY, PLZ, PLP: SP up, then the byte there. R300, R306 to R308, R310, R311. -/
def Obligations.PullResult : Prop :=
  ∀ (i : Instr) (s : State) (v : Byte) (len : Nat), s.peek (.cpu (s.spPlus 0x0001#16)) = some v →
    let t := (s.advance len).withSp (s.spPlus 0x0001#16)
    (∀ r, formOf i = .pull r len →
      exec i s = .next { t.setReg r v with fl := { s.fl with n := v.getLsbD 7, z := v == 0x00#8 } }) ∧
    (formOf i = .pullFlags len →
      exec i s = .next
        { t with fl := { n := v.getLsbD 7, v := v.getLsbD 6, e := s.fl.e, d := v.getLsbD 3, i := v.getLsbD 2,
                         z := v.getLsbD 1, c := v.getLsbD 0 } })

/-- O16. ADC and SBC with D = 0: result, carry, overflow, N and Z in integer terms. R340, R341, R242, R243, binary case, every addressing mode. -/
def Obligations.AdcSbcBinary : Prop :=
  ∀ (i : Instr) (s : State) (src : Source) (len : Nat) (m : Byte), s.fl.d = false → s.value src = some m →
    (formOf i = .alu .adc src len →
      let sum := s.a.toNat + m.toNat + s.fl.c.toNat
      let r := BitVec.ofNat 8 sum
      exec i s = .next
        { s.advance len with
          a := r
          fl := { s.fl with n := r.getLsbD 7, z := r == 0x00#8, c := decide (255 < sum),
                            v := s.a.getLsbD 7 == m.getLsbD 7 && r.getLsbD 7 != s.a.getLsbD 7 } }) ∧
    (formOf i = .alu .sbc src len →
      let diff : Int := s.a.toNat - m.toNat - 1 + s.fl.c.toNat
      let r := BitVec.ofInt 8 diff
      exec i s = .next
        { s.advance len with
          a := r
          fl := { s.fl with n := r.getLsbD 7, z := r == 0x00#8, c := decide (0 ≤ diff),
                            v := s.a.getLsbD 7 != m.getLsbD 7 && r.getLsbD 7 != s.a.getLsbD 7 } })

/-- O17. ADC and SBC with D = 1: the BCD result, C, N and Z for BCD operands; only A, the four flags and PC change. R350 (D30): V, and everything on operands that are not BCD, is "any value" and is left unconstrained. -/
def Obligations.DecimalAddSub : Prop :=
  ∀ (i : Instr) (s : State) (op : AluOp) (src : Source) (len : Nat) (m : Byte), op = .adc ∨ op = .sbc →
    formOf i = .alu op src len → s.fl.d = true → s.value src = some m →
    ∃ t, exec i s = .next t ∧
      t = { s.advance len with
            a := t.a, free := t.free, fl := { s.fl with n := t.fl.n, v := t.fl.v, z := t.fl.z, c := t.fl.c } } ∧
      (s.a.toNat / 16 ≤ 9 → s.a.toNat % 16 ≤ 9 → m.toNat / 16 ≤ 9 → m.toNat % 16 ≤ 9 →
        let x := 10 * (s.a.toNat / 16) + s.a.toNat % 16
        let y := 10 * (m.toNat / 16) + m.toNat % 16
        let sum := x + y + s.fl.c.toNat
        let diff : Int := x - y - (1 - s.fl.c.toNat)
        let r := if op = .adc then sum % 100 else (diff % 100).toNat
        t.a.toNat = 16 * (r / 10) + r % 10 ∧ t.fl.c = decide (if op = .adc then 99 < sum else 0 ≤ diff) ∧
          t.fl.n = t.a.getLsbD 7 ∧ t.fl.z = (t.a == 0x00#8))

/-- O18. AND, ORA, EOR and NEG: A, N and Z, and nothing else. R343 to R345, R245 to R247, R262. -/
def Obligations.LogicResult : Prop :=
  ∀ (i : Instr) (s : State) (src : Source) (len : Nat) (m : Byte),
    let out : Byte → State := fun r =>
      { s.advance len with a := r, fl := { s.fl with n := r.getLsbD 7, z := r == 0x00#8 } }
    (s.value src = some m →
      (formOf i = .alu .and src len → exec i s = .next (out (s.a &&& m))) ∧
      (formOf i = .alu .ora src len → exec i s = .next (out (s.a ||| m))) ∧
      (formOf i = .alu .eor src len → exec i s = .next (out (s.a ^^^ m)))) ∧
    (formOf i = .negate len → exec i s = .next (out (0x00#8 - s.a)))

/-- O19. CMP, CPX, CPY, CPZ: C is not-less, Z is equal, N is bit 7 of the difference. R342, R346 to R348, R244. -/
def Obligations.CompareResult : Prop :=
  ∀ (i : Instr) (s : State) (r : Reg) (src : Source) (len : Nat) (m : Byte),
    formOf i = .compare r src len → s.value src = some m →
    exec i s = .next
      { s.advance len with
        fl := { s.fl with n := (s.reg r - m).getLsbD 7, z := s.reg r == m,
                          c := decide (m.toNat ≤ (s.reg r).toNat) } }

/-- O20. BIT: N and V from the operand's top bits, Z from A and the operand. R349 (D29, for both values of `BitImmSetsNV`). -/
def Obligations.BitResult : Prop :=
  ∀ (i : Instr) (s : State) (len : Nat) (m : Byte),
    let fl : Flags := { s.fl with n := m.getLsbD 7, v := m.getLsbD 6, z := (s.a &&& m) == 0x00#8 }
    (∀ mode, formOf i = .bit mode len → s.value (.mem mode) = some m → exec i s = .next { s.advance len with fl := fl }) ∧
    (formOf i = .bitImm m len →
      exec i s = .next
        { s.advance len with
          fl := if s.cfg.bitImmSetsNV then fl else { s.fl with z := (s.a &&& m) == 0x00#8 } })

/-- O21. LDQ: four bytes into A, X, Y, Z, and N and Z from all 32 bits. R190: the four forms; the indirect forms add the old Z (R168, R170). -/
def Obligations.LoadQResult : Prop :=
  (∀ (i : Instr) (s : State) (m : MemMode) (len : Nat) (pl : Place) (v : Quad), formOf i = .loadQ m len →
    s.place m = some pl → s.peek32 pl = some v →
    exec i s = .next
      { s.advance len with
        a := v.extractLsb' 0 8, x := v.extractLsb' 8 8, y := v.extractLsb' 16 8, z := v.extractLsb' 24 8
        fl := { s.fl with n := v.getLsbD 31, z := v == 0x00000000#32 } }) ∧
  ∀ (nn : Byte) (a : Word),
    Encodes (.ldqBp nn) [0x42#8, 0x42#8, 0xA5#8, nn] (.loadQ (.bp nn) 4) ∧
    Encodes (.ldqAbs a) [0x42#8, 0x42#8, 0xAD#8, lowByte a, highByte a] (.loadQ (.abs a) 5) ∧
    Encodes (.ldqBpIndZ nn) [0x42#8, 0x42#8, 0xB2#8, nn] (.loadQ (.bpIndZ nn) 4) ∧
    Encodes (.ldqFarZ nn) [0x42#8, 0x42#8, 0xEA#8, 0xB2#8, nn] (.loadQ (.farZ nn) 5)

/-- O22. STQ to RAM: A, X, Y, Z at four consecutive addresses, and nothing else. R191: the four forms (R168, R170: Z not added). -/
def Obligations.StoreQResult : Prop :=
  (∀ (i : Instr) (s : State) (m : MemMode) (len : Nat) (pl : Place) (p0 p1 p2 p3 : Phys), formOf i = .storeQ m len →
    s.place m = some pl → s.ramAt pl = some p0 → s.ramAt (pl.plus 1) = some p1 → s.ramAt (pl.plus 2) = some p2 →
    s.ramAt (pl.plus 3) = some p3 →
    let ws := [(p0, s.a), (p1, s.x), (p2, s.y), (p3, s.z)]
    let t := (s.advance len).storeAll ws
    exec i s = .next t ∧ Writes s t ws) ∧
  ∀ (nn : Byte) (a : Word),
    Encodes (.stqBp nn) [0x42#8, 0x42#8, 0x85#8, nn] (.storeQ (.bp nn) 4) ∧
    Encodes (.stqAbs a) [0x42#8, 0x42#8, 0x8D#8, lowByte a, highByte a] (.storeQ (.abs a) 5) ∧
    Encodes (.stqBpInd nn) [0x42#8, 0x42#8, 0x92#8, nn] (.storeQ (.bpInd nn) 4) ∧
    Encodes (.stqFar nn) [0x42#8, 0x42#8, 0xEA#8, 0x92#8, nn] (.storeQ (.far nn) 5)

/-- O23. ADCQ: Q + M + C in 32 bits with C, V, N, Z; refused with D = 1. R200 whole: encodings, flags, and "undefined" with D = 1 (U1). -/
def Obligations.AdcqResult : Prop :=
  (∀ (nn : Byte) (a : Word),
    Encodes (.adcqBp nn) [0x42#8, 0x42#8, 0x65#8, nn] (.aluQ .adc (.bp nn) 4) ∧
    Encodes (.adcqAbs a) [0x42#8, 0x42#8, 0x6D#8, lowByte a, highByte a] (.aluQ .adc (.abs a) 5) ∧
    Encodes (.adcqBpInd nn) [0x42#8, 0x42#8, 0x72#8, nn] (.aluQ .adc (.bpInd nn) 4) ∧
    Encodes (.adcqFar nn) [0x42#8, 0x42#8, 0xEA#8, 0x72#8, nn] (.aluQ .adc (.far nn) 5)) ∧
  ∀ (i : Instr) (s : State) (m : MemMode) (len : Nat), formOf i = .aluQ .adc m len →
    (s.fl.d = true → exec i s = .refused .adcqDecimal) ∧
    ∀ (pl : Place) (v : Quad), s.fl.d = false → s.place m = some pl → s.peek32 pl = some v →
      let sum := s.q.toNat + v.toNat + s.fl.c.toNat
      let r := BitVec.ofNat 32 sum
      exec i s = .next
        { s.advance len with
          a := r.extractLsb' 0 8, x := r.extractLsb' 8 8, y := r.extractLsb' 16 8, z := r.extractLsb' 24 8
          fl := { s.fl with n := r.getLsbD 31, z := r == 0x00000000#32, c := decide (0xFFFFFFFF < sum),
                            v := s.q.getLsbD 31 == v.getLsbD 31 && r.getLsbD 31 != s.q.getLsbD 31 } }

/-- O24. SBCQ: Q - M - 1 + C in 32 bits with C, V, N, Z; refused with D = 1. R201 whole: encodings, flags, and "reserved" with D = 1 (U2). -/
def Obligations.SbcqResult : Prop :=
  (∀ (nn : Byte) (a : Word),
    Encodes (.sbcqBp nn) [0x42#8, 0x42#8, 0xE5#8, nn] (.aluQ .sbc (.bp nn) 4) ∧
    Encodes (.sbcqAbs a) [0x42#8, 0x42#8, 0xED#8, lowByte a, highByte a] (.aluQ .sbc (.abs a) 5) ∧
    Encodes (.sbcqBpInd nn) [0x42#8, 0x42#8, 0xF2#8, nn] (.aluQ .sbc (.bpInd nn) 4) ∧
    Encodes (.sbcqFar nn) [0x42#8, 0x42#8, 0xEA#8, 0xF2#8, nn] (.aluQ .sbc (.far nn) 5)) ∧
  ∀ (i : Instr) (s : State) (m : MemMode) (len : Nat), formOf i = .aluQ .sbc m len →
    (s.fl.d = true → exec i s = .refused .sbcqDecimal) ∧
    ∀ (pl : Place) (v : Quad), s.fl.d = false → s.place m = some pl → s.peek32 pl = some v →
      let diff : Int := s.q.toNat - v.toNat - 1 + s.fl.c.toNat
      let r := BitVec.ofInt 32 diff
      exec i s = .next
        { s.advance len with
          a := r.extractLsb' 0 8, x := r.extractLsb' 8 8, y := r.extractLsb' 16 8, z := r.extractLsb' 24 8
          fl := { s.fl with n := r.getLsbD 31, z := r == 0x00000000#32, c := decide (0 ≤ diff),
                            v := s.q.getLsbD 31 != v.getLsbD 31 && r.getLsbD 31 != s.q.getLsbD 31 } }

/-- O25. CMPQ: C iff Q is not less than M, Z iff equal, N bit 31 of the difference; Q unchanged. R202 whole. -/
def Obligations.CmpqResult : Prop :=
  (∀ (nn : Byte) (a : Word),
    Encodes (.cmpqBp nn) [0x42#8, 0x42#8, 0xC5#8, nn] (.compareQ (.bp nn) 4) ∧
    Encodes (.cmpqAbs a) [0x42#8, 0x42#8, 0xCD#8, lowByte a, highByte a] (.compareQ (.abs a) 5) ∧
    Encodes (.cmpqBpInd nn) [0x42#8, 0x42#8, 0xD2#8, nn] (.compareQ (.bpInd nn) 4) ∧
    Encodes (.cmpqFar nn) [0x42#8, 0x42#8, 0xEA#8, 0xD2#8, nn] (.compareQ (.far nn) 5)) ∧
  ∀ (i : Instr) (s : State) (m : MemMode) (len : Nat) (pl : Place) (v : Quad), formOf i = .compareQ m len →
    s.place m = some pl → s.peek32 pl = some v →
    exec i s = .next
      { s.advance len with
        fl := { s.fl with n := (s.q - v).getLsbD 31, z := s.q == v, c := decide (v.toNat ≤ s.q.toNat) } }

/-- O26. ANDQ, EORQ, and ORQ: the bitwise result in all of Q, N and Z. R203, R204, R205. That ORQ is an OR, against its own header, is the spec's resolution C7 (log entry 4). -/
def Obligations.AndqEorqResult : Prop :=
  (∀ (nn : Byte) (a : Word),
    Encodes (.andqBp nn) [0x42#8, 0x42#8, 0x25#8, nn] (.aluQ .and (.bp nn) 4) ∧
    Encodes (.andqAbs a) [0x42#8, 0x42#8, 0x2D#8, lowByte a, highByte a] (.aluQ .and (.abs a) 5) ∧
    Encodes (.andqBpInd nn) [0x42#8, 0x42#8, 0x32#8, nn] (.aluQ .and (.bpInd nn) 4) ∧
    Encodes (.andqFar nn) [0x42#8, 0x42#8, 0xEA#8, 0x32#8, nn] (.aluQ .and (.far nn) 5) ∧
    Encodes (.eorqBp nn) [0x42#8, 0x42#8, 0x45#8, nn] (.aluQ .eor (.bp nn) 4) ∧
    Encodes (.eorqAbs a) [0x42#8, 0x42#8, 0x4D#8, lowByte a, highByte a] (.aluQ .eor (.abs a) 5) ∧
    Encodes (.eorqBpInd nn) [0x42#8, 0x42#8, 0x52#8, nn] (.aluQ .eor (.bpInd nn) 4) ∧
    Encodes (.eorqFar nn) [0x42#8, 0x42#8, 0xEA#8, 0x52#8, nn] (.aluQ .eor (.far nn) 5) ∧
    Encodes (.orqBp nn) [0x42#8, 0x42#8, 0x05#8, nn] (.aluQ .ora (.bp nn) 4) ∧
    Encodes (.orqAbs a) [0x42#8, 0x42#8, 0x0D#8, lowByte a, highByte a] (.aluQ .ora (.abs a) 5) ∧
    Encodes (.orqBpInd nn) [0x42#8, 0x42#8, 0x12#8, nn] (.aluQ .ora (.bpInd nn) 4) ∧
    Encodes (.orqFar nn) [0x42#8, 0x42#8, 0xEA#8, 0x12#8, nn] (.aluQ .ora (.far nn) 5)) ∧
  ∀ (i : Instr) (s : State) (m : MemMode) (len : Nat) (pl : Place) (v : Quad),
    s.place m = some pl → s.peek32 pl = some v →
    let out : Quad → State := fun r =>
      { s.advance len with
        a := r.extractLsb' 0 8, x := r.extractLsb' 8 8, y := r.extractLsb' 16 8, z := r.extractLsb' 24 8
        fl := { s.fl with n := r.getLsbD 31, z := r == 0x00000000#32 } }
    (formOf i = .aluQ .and m len → exec i s = .next (out (s.q &&& v))) ∧
    (formOf i = .aluQ .eor m len → exec i s = .next (out (s.q ^^^ v))) ∧
    (formOf i = .aluQ .ora m len → exec i s = .next (out (s.q ||| v)))

/-- O27. BITQ: N and V from bits 31 and 30, Z from Q and the operand. R206: both forms. -/
def Obligations.BitqResult : Prop :=
  (∀ (i : Instr) (s : State) (m : MemMode) (len : Nat) (pl : Place) (v : Quad), formOf i = .bitQ m len →
    s.place m = some pl → s.peek32 pl = some v →
    exec i s = .next
      { s.advance len with
        fl := { s.fl with n := v.getLsbD 31, v := v.getLsbD 30, z := (s.q &&& v) == 0x00000000#32 } }) ∧
  ∀ (nn : Byte) (a : Word),
    Encodes (.bitqBp nn) [0x42#8, 0x42#8, 0x24#8, nn] (.bitQ (.bp nn) 4) ∧
    Encodes (.bitqAbs a) [0x42#8, 0x42#8, 0x2C#8, lowByte a, highByte a] (.bitQ (.abs a) 5)

/-- O28. ADCQ, SBCQ, CMPQ, ANDQ, ORQ, EORQ, BITQ write no flag but those of their Flags line. R207 whole, for every state and operand, device reads included. -/
def Obligations.QFlagsNotNamed : Prop :=
  ∀ (i : Instr) (s t : State) (m : MemMode) (len : Nat), exec i s = .next t →
    ((∃ op, formOf i = .aluQ op m len) ∨ formOf i = .compareQ m len ∨ formOf i = .bitQ m len →
      t.fl.e = s.fl.e ∧ t.fl.d = s.fl.d ∧ t.fl.i = s.fl.i) ∧
    ((∃ op, op ≠ .adc ∧ op ≠ .sbc ∧ formOf i = .aluQ op m len) ∨ formOf i = .compareQ m len → t.fl.v = s.fl.v) ∧
    ((∃ op, op ≠ .adc ∧ op ≠ .sbc ∧ formOf i = .aluQ op m len) ∨ formOf i = .bitQ m len → t.fl.c = s.fl.c)

/-- O29. Shifts, rotates, increments and decrements at every width, as arithmetic. R220 to R226, R351 to R357, R360 to R371, at 8, 16 and 32 bits alike. -/
def Obligations.ChangeFormulas : Prop :=
  ∀ (w : Nat) (fl : Flags) (v : BitVec (w + 1)),
    let out : BitVec (w + 1) → Bool → BitVec (w + 1) × Flags := fun r c =>
      (r, { fl with n := r.getLsbD w, z := r == 0#(w + 1), c := c })
    Change.apply (.shift .asl) fl v = out (BitVec.ofNat _ (2 * v.toNat)) (v.getLsbD w) ∧
    Change.apply (.shift .lsr) fl v = out (BitVec.ofNat _ (v.toNat / 2)) (v.getLsbD 0) ∧
    Change.apply (.shift .rol) fl v = out (BitVec.ofNat _ (2 * v.toNat + fl.c.toNat)) (v.getLsbD w) ∧
    Change.apply (.shift .ror) fl v = out (BitVec.ofNat _ (v.toNat / 2 + 2 ^ w * fl.c.toNat)) (v.getLsbD 0) ∧
    Change.apply (.shift .asr) fl v = out (BitVec.ofInt _ (v.toInt / 2)) (v.getLsbD 0) ∧
    Change.apply (.step true) fl v = out (BitVec.ofNat _ (v.toNat + 1)) fl.c ∧
    Change.apply (.step false) fl v = out (BitVec.ofInt _ ((v.toNat : Int) - 1)) fl.c

/-- O30. Shifts of A, and INC, DEC of A, X, Y, Z: the register and the flags, and nothing else. R351 to R355, R361, R363 to R369. -/
def Obligations.ChangeRegResult : Prop :=
  ∀ (i : Instr) (s : State) (ch : Change) (r : Reg) (len : Nat), formOf i = .changeReg ch r len →
    exec i s = .next
      { (s.advance len).setReg r (ch.apply s.fl (s.reg r)).1 with fl := (ch.apply s.fl (s.reg r)).2 }

/-- O31. Shifts, INC, DEC of a byte of RAM: that byte and the flags, and nothing else. R351 to R355, R358, R360, R362; a dummy write at $D019 leaves the same memory. -/
def Obligations.ChangeMemResult : Prop :=
  ∀ (i : Instr) (s : State) (ch : Change) (m : MemMode) (len : Nat) (pl : Place) (v : Byte) (p : Phys),
    formOf i = .changeMem ch m len → s.place m = some pl → s.peek pl = some v → s.ramAt pl = some p →
    ∃ t, exec i s = .next t ∧ t = { s.advance len with fl := (ch.apply s.fl v).2, mem := t.mem } ∧
      Writes s t [(p, (ch.apply s.fl v).1)]

/-- O32. TSB, TRB, RMBn, SMBn on RAM: the bits, Z of TSB and TRB, and nothing else. R372 to R375, R358. -/
def Obligations.BitMemResult : Prop :=
  ∀ (i : Instr) (s : State) (op : BitOp) (m : MemMode) (len : Nat) (pl : Place) (v : Byte) (p : Phys),
    formOf i = .bitMem op m len → s.place m = some pl → s.peek pl = some v → s.ramAt pl = some p →
    ∃ (t : State) (r : Byte), exec i s = .next t ∧ Writes s t [(p, r)] ∧
      (op = .tsb ∨ op = .trb → t = { s.advance len with fl := { s.fl with z := (s.a &&& v) == 0x00#8 }, mem := t.mem }) ∧
      (op ≠ .tsb → op ≠ .trb → t = { s.advance len with mem := t.mem }) ∧
      ∀ k : Fin 8, r.getLsbD k =
        match op with
        | .tsb => v.getLsbD k || s.a.getLsbD k
        | .trb => v.getLsbD k && !s.a.getLsbD k
        | .rmb n => v.getLsbD k && k != n
        | .smb n => v.getLsbD k || k == n

/-- O33. INW, DEW, ASW, ROW on RAM: two bytes and the flags of the 16-bit value, and nothing else. R356 to R358, R370, R371. -/
def Obligations.ChangeWordResult : Prop :=
  ∀ (i : Instr) (s : State) (ch : Change) (m : MemMode) (len : Nat) (pl : Place) (v : Word) (p0 p1 : Phys),
    formOf i = .changeWord ch m len → s.place m = some pl → s.peek16 pl = some v →
    s.ramAt pl = some p0 → s.ramAt (pl.plus 1) = some p1 →
    ∃ t, exec i s = .next t ∧ t = { s.advance len with fl := (ch.apply s.fl v).2, mem := t.mem } ∧
      Writes s t [(p0, lowByte (ch.apply s.fl v).1), (p1, highByte (ch.apply s.fl v).1)]

/-- O34. Q shifts, INQ, DEQ: Q in the register form, four bytes of RAM in the memory forms. R220 to R228, R80. -/
def Obligations.ChangeQResult : Prop :=
  ∀ (i : Instr) (s : State) (ch : Change) (len : Nat),
    (formOf i = .changeQ ch len →
      let r := (ch.apply s.fl s.q).1
      exec i s = .next
        { s.advance len with
          a := r.extractLsb' 0 8, x := r.extractLsb' 8 8, y := r.extractLsb' 16 8, z := r.extractLsb' 24 8
          fl := (ch.apply s.fl s.q).2 }) ∧
    ∀ (m : MemMode) (pl : Place) (v : Quad) (p0 p1 p2 p3 : Phys), formOf i = .changeMemQ ch m len →
      s.place m = some pl → s.peek32 pl = some v → s.ramAt pl = some p0 → s.ramAt (pl.plus 1) = some p1 →
      s.ramAt (pl.plus 2) = some p2 → s.ramAt (pl.plus 3) = some p3 →
      let r := (ch.apply s.fl v).1
      let ws := [(p0, r.extractLsb' 0 8), (p1, r.extractLsb' 8 8), (p2, r.extractLsb' 16 8), (p3, r.extractLsb' 24 8)]
      ∃ t, exec i s = .next t ∧ t = { s.advance len with fl := (ch.apply s.fl v).2, mem := t.mem } ∧ Writes s t ws

/-- O35. The dummy write of every read-modify-write instruction: at $D019, and nowhere else; in the Q forms none at all. R79, R80, R358 (D6, D17), on devices whose reads and writes reach the platform; for both values of `Rmw65ce02DummyWrite`. -/
def Obligations.DummyWrite : Prop :=
  ∀ (i : Instr) (s : State) (m : MemMode) (len : Nat) (pl : Place) (p : Phys) (v : Byte) (rest : List Byte),
    s.place m = some pl → s.target .read pl = .phys p → s.target .write pl = .phys p → s.isDevice p = true →
    let old : Bool → List BusEvent := fun always =>
      if pl = .cpu 0xD019#16 ∧ (always = true ∨ s.cfg.rmw65ce02DummyWrite = true) then [.write p v] else []
    (s.answers = v :: rest →
      (∀ ch, formOf i = .changeMem ch m len →
        exec i s = .next
          { s.advance len with
            fl := (ch.apply s.fl v).2, answers := rest
            trace := .write p (ch.apply s.fl v).1 :: (old (decide (ch ≠ .shift .asr)) ++ .read p v :: s.trace) }) ∧
      ∀ op, formOf i = .bitMem op m len →
        exec i s = .next
          { s.advance len with
            fl := (op.apply s.a s.fl v).2, answers := rest
            trace := .write p (op.apply s.a s.fl v).1 :: (old false ++ .read p v :: s.trace) }) ∧
    (∀ (ch : Change) (p1 : Phys) (w : Byte), formOf i = .changeWord ch m len →
      s.target .read (pl.plus 1) = .phys p1 → s.target .write (pl.plus 1) = .phys p1 → s.isDevice p1 = true →
      s.answers = v :: w :: rest →
      let r := ch.apply s.fl (w ++ v)
      exec i s = .next
        { s.advance len with
          fl := r.2, answers := rest
          trace := .write p1 (highByte r.1) :: .write p (lowByte r.1) ::
            (old false ++ .read p1 w :: .read p v :: s.trace) }) ∧
    ∀ (ch : Change) (p1 p2 p3 : Phys) (v1 v2 v3 : Byte), formOf i = .changeMemQ ch m len →
      let device : Nat → Phys → Prop := fun k q =>
        s.target .read (pl.plus k) = .phys q ∧ s.target .write (pl.plus k) = .phys q ∧ s.isDevice q = true
      device 1 p1 → device 2 p2 → device 3 p3 → s.answers = v :: v1 :: v2 :: v3 :: rest →
      let r := ch.apply s.fl (v3 ++ v2 ++ v1 ++ v)
      exec i s = .next
        { s.advance len with
          fl := r.2, answers := rest
          trace := .write p3 (r.1.extractLsb' 24 8) :: .write p2 (r.1.extractLsb' 16 8) ::
            .write p1 (r.1.extractLsb' 8 8) :: .write p (r.1.extractLsb' 0 8) ::
            .read p3 v3 :: .read p2 v2 :: .read p1 v1 :: .read p v :: s.trace }

/-- O36. Branches: PC goes to the target exactly if the condition holds; nothing else changes. R400 to R409, R172, R173 (D24, for both values of `RelWordBase`). -/
def Obligations.BranchResult : Prop :=
  ∀ (i : Instr) (s : State) (len : Nat),
    ∀ x ∈ [(Cond.pl, !s.fl.n), (.mi, s.fl.n), (.vc, !s.fl.v), (.vs, s.fl.v), (.cc, !s.fl.c), (.cs, s.fl.c),
           (.ne, !s.fl.z), (.eq, s.fl.z), (.always, true)],
    let next := s.pc + BitVec.ofNat 16 len
    let base : Word := if s.cfg.relWordBase = .two then 2#16 else 3#16
    (∀ d : Byte, formOf i = .branch x.1 d len →
      exec i s = .next { s with pc := if x.2 then next + d.signExtend 16 else next }) ∧
    (∀ d : Word, formOf i = .branchWord x.1 d len →
      exec i s = .next { s with pc := if x.2 then s.pc + base + d else next })

/-- O37. BBRn, BBSn: branch on a bit of a base-page byte; nothing else changes. R415, R174. -/
def Obligations.BranchBitResult : Prop :=
  ∀ (i : Instr) (s : State) (on : Bool) (n : Fin 8) (nn d v : Byte) (len : Nat),
    formOf i = .branchBit on n nn d len → s.peek (.cpu (s.b ++ nn)) = some v →
    let next := s.pc + BitVec.ofNat 16 len
    exec i s = .next { s with pc := if v.getLsbD n = on then next + d.signExtend 16 else next }

/-- O38. JMP abs: opcode 4C, three bytes, PC becomes the operand. R420: the opcode, the length and the rule for PC. -/
def Obligations.JumpAbsolute : Prop :=
  ∀ (a : Word) (s : State), encode (.jmpAbs a) = [0x4C#8, lowByte a, highByte a] ∧
    exec (.jmpAbs a) s = .next { s with pc := a }

/-- O39. JMP in its three forms: PC becomes the destination; nothing else changes. R420 to R422, R161, R162. -/
def Obligations.JumpResult : Prop :=
  ∀ (i : Instr) (s : State) (t : JumpTarget) (len : Nat) (dest : Word), formOf i = .jump t len →
    (match t with
      | .abs a => dest = a
      | .ind a => s.peek (.cpu a) = some (lowByte dest) ∧ s.peek (.cpu (a + 1#16)) = some (highByte dest)
      | .indX a =>
        s.peek (.cpu (a + s.x.setWidth 16)) = some (lowByte dest) ∧
          s.peek (.cpu (a + s.x.setWidth 16 + 1#16)) = some (highByte dest)) →
    exec i s = .next { s with pc := dest }

/-- O40. JSR and BSR with the stack in RAM: PCop + 2 pushed, then PC from the target. R410, R423 to R425, R300; BSR for both values of `RelWordBase`. -/
def Obligations.CallResult : Prop :=
  ∀ (i : Instr) (s : State) (len : Nat) (p0 p1 : Phys),
    s.ramAt (.cpu (s.sph ++ s.spl)) = some p0 → s.ramAt (.cpu (s.spPlus 0xFFFF#16)) = some p1 →
    let ws := [(p0, highByte (s.pc + 2#16)), (p1, lowByte (s.pc + 2#16))]
    let u := ((s.advance len).storeAll ws).withSp (s.spPlus 0xFFFE#16)
    let base : Word := if s.cfg.relWordBase = .two then 2#16 else 3#16
    Writes s u ws ∧
    (∀ (t : JumpTarget) (dest : Word), formOf i = .call t len → u.destination t = some dest →
      exec i s = .next { u with pc := dest }) ∧
    (∀ d : Word, formOf i = .branchSub d len → exec i s = .next { u with pc := s.pc + base + d })

/-- O41. RTS, RTS #n, RTI: what is pulled, where PC goes, where SP ends. R426 to R428, R300 (D31 for RTS #n). -/
def Obligations.ReturnResult : Prop :=
  ∀ (i : Instr) (s : State) (len : Nat) (b1 b2 b3 : Byte), s.peek (.cpu (s.spPlus 1#16)) = some b1 →
    s.peek (.cpu (s.spPlus 2#16)) = some b2 →
    (∀ n : Byte, formOf i = .ret n len →
      exec i s = .next { s.withSp (s.spPlus (2#16 + n.setWidth 16)) with pc := (b2 ++ b1) + 1#16 }) ∧
    (formOf i = .retInterrupt len → s.peek (.cpu (s.spPlus 3#16)) = some b3 →
      exec i s = .next
        { s.withSp (s.spPlus 3#16) with
          pc := b3 ++ b2
          fl := { n := b1.getLsbD 7, v := b1.getLsbD 6, e := s.fl.e, d := b1.getLsbD 3, i := b1.getLsbD 2,
                  z := b1.getLsbD 1, c := b1.getLsbD 0 } })

/-- O42. BRK, IRQ and NMI entry: what is pushed, the flags, and the vector. R455 to R457, R429 (D37, for both values of `IntClearsD`). That IRQ and NMI set `atEntry` is the model's boundary mark (log entry 13). -/
def Obligations.BreakAndInterruptEntry : Prop :=
  ∀ (s : State) (p0 p1 p2 : Phys) (sig : Byte) (dest : Word), s.ramAt (.cpu (s.sph ++ s.spl)) = some p0 →
    s.ramAt (.cpu (s.spPlus 0xFFFF#16)) = some p1 → s.ramAt (.cpu (s.spPlus 0xFFFE#16)) = some p2 →
    let status : Bool → Byte := fun brk =>
      BitVec.ofBool s.fl.n ++ BitVec.ofBool s.fl.v ++ BitVec.ofBool s.fl.e ++ BitVec.ofBool brk ++
        BitVec.ofBool s.fl.d ++ BitVec.ofBool s.fl.i ++ BitVec.ofBool s.fl.z ++ BitVec.ofBool s.fl.c
    let ws : Word → Bool → List (Phys × Byte) := fun ret brk => [(p0, highByte ret), (p1, lowByte ret), (p2, status brk)]
    let u : Word → Bool → State := fun ret brk => (s.storeAll (ws ret brk)).withSp (s.spPlus 0xFFFD#16)
    let fl : Flags := { s.fl with i := true, d := if s.cfg.intClearsD then false else s.fl.d }
    ((u (s.pc + 2#16) true).peek16 (.cpu 0xFFFE#16) = some dest →
      exec (.brk sig) s = .next { u (s.pc + 2#16) true with pc := dest, fl := fl }) ∧
    ((u s.pc false).peek16 (.cpu 0xFFFE#16) = some dest →
      s.take .irq = { u s.pc false with pc := dest, fl := fl, atEntry := true }) ∧
    ((u s.pc false).peek16 (.cpu 0xFFFA#16) = some dest →
      s.take .nmi = { u s.pc false with pc := dest, fl := fl, atEntry := true, nmiPending := false }) ∧
    ∀ ret brk, Writes s (u ret brk) (ws ret brk)

/-- O43. CLC, SEC, CLI, SEI, CLD, SED, CLV, CLE, SEE: exactly the flag named. R430 to R438, one clause for each instruction. -/
def Obligations.FlagResult : Prop :=
  ∀ s : State,
    exec .clc s = .next { s.advance 1 with fl := { s.fl with c := false } } ∧
    exec .sec s = .next { s.advance 1 with fl := { s.fl with c := true } } ∧
    exec .cli s = .next { s.advance 1 with fl := { s.fl with i := false } } ∧
    exec .sei s = .next { s.advance 1 with fl := { s.fl with i := true } } ∧
    exec .cld s = .next { s.advance 1 with fl := { s.fl with d := false } } ∧
    exec .sed s = .next { s.advance 1 with fl := { s.fl with d := true } } ∧
    exec .clv s = .next { s.advance 1 with fl := { s.fl with v := false } } ∧
    exec .cle s = .next { s.advance 1 with fl := { s.fl with e := false } } ∧
    exec .see s = .next { s.advance 1 with fl := { s.fl with e := true } }

/-- O44. MAP loads the mapping registers and holds interrupts off; EOM lets them in again. R260, R261; offsets in units of 256 bytes. -/
def Obligations.MapAndEom : Prop :=
  ∀ s : State,
    (∃ m : MapRegs, exec .map s = .next { s.advance 1 with map := m, mapInhibit := true } ∧
      m.loOff.toNat = 256 * (s.x.toNat % 16) + s.a.toNat ∧ m.loEn.toNat = s.x.toNat / 16 ∧
      m.hiOff.toNat = 256 * (s.z.toNat % 16) + s.y.toNat ∧ m.hiEn.toNat = s.z.toNat / 16 ∧
      m.mbLo = (if s.x = 0x0F#8 then s.a else s.map.mbLo) ∧ m.mbHi = (if s.z = 0x0F#8 then s.y else s.map.mbHi)) ∧
    exec .eom s = .next { s.advance 1 with mapInhibit := false }

/-- O45. A block that MAP enables: megabyte register, and address plus offset modulo 2^20. R66, R69 (D9, D12). -/
def Obligations.MapTranslation : Prop :=
  ∀ (s : State) (acc : Access) (a : Word), s.hyper = true ∨ s.d030 = 0x00#8 →
    let k := a.toNat / 8192
    (k < 4 → s.map.loEn.getLsbD k = true →
      ∃ p : Phys, s.translate acc a = .phys p ∧
        p.toNat = s.map.mbLo.toNat * 2 ^ 20 + (a.toNat + 256 * s.map.loOff.toNat) % 2 ^ 20) ∧
    (4 ≤ k → s.map.hiEn.getLsbD (k - 4) = true →
      ∃ p : Phys, s.translate acc a = .phys p ∧
        p.toNat = s.map.mbHi.toNat * 2 ^ 20 + (a.toNat + 256 * s.map.hiOff.toNat) % 2 ^ 20)

/-- O46. An unmapped block: C64 banking by the CPU port, the I/O block, RAM beneath. R66, R70, R41 (D4). LORAM, HIRAM, CHAREN are bits 0 to 2 of (data and ddr) or not ddr. -/
def Obligations.C64BankingTranslation : Prop :=
  ∀ (s : State) (acc : Access) (a : Word), s.hyper = true ∨ s.d030 = 0x00#8 → s.map.translate a = none →
    let n := a.toNat
    let bit : Nat → Bool := fun k => s.portData.getLsbD k || !s.portDdr.getLsbD k
    let rd := acc ≠ .write
    let at_ : Nat → Prop := fun p => s.translate acc a = .phys (BitVec.ofNat 28 p)
    (n = 0 → s.translate acc a = .portDdr) ∧ (n = 1 → s.translate acc a = .portData) ∧
    (2 ≤ n → n < 0xA000 → at_ n) ∧
    (0xA000 ≤ n → n < 0xC000 → at_ (if rd ∧ bit 0 ∧ bit 1 then 0x2A000 + (n - 0xA000) else n)) ∧
    (0xC000 ≤ n → n < 0xD000 → at_ n) ∧
    (0xD000 ≤ n → n < 0xE000 →
      at_ (if (bit 0 ∨ bit 1) ∧ bit 2 then s.ioBase.toNat + (n - 0xD000)
           else if rd ∧ (bit 0 ∨ bit 1) then 0x2D000 + (n - 0xD000) else n)) ∧
    (0xE000 ≤ n → at_ (if rd ∧ bit 1 then 0x2E000 + (n - 0xE000) else n))

/-- O47. VIC-III banking in normal mode: the six rows of $D030, and no row else. R66 step 1, R67, R68, with the spec's decisions D10 (CROM9 first) and D11 (writes fall through). -/
def Obligations.VicBankingTranslation : Prop :=
  ∀ (s : State) (acc : Access) (a : Word), s.hyper = false →
    let n := a.toNat
    let bit : Nat → Bool := fun k => s.d030.getLsbD k
    let rd := acc ≠ .write
    let at_ : Nat → Prop := fun p => s.translate acc a = .phys (BitVec.ofNat 28 p)
    let cram := 0xD800 ≤ n ∧ n < 0xE000 ∧ bit 0 = true
    (rd → 0x8000 ≤ n → n < 0xA000 → bit 3 = true → at_ (0x38000 + (n - 0x8000))) ∧
    (rd → 0xA000 ≤ n → n < 0xC000 → bit 4 = true → at_ (0x3A000 + (n - 0xA000))) ∧
    (rd → 0xC000 ≤ n → n < 0xD000 → bit 5 = true → at_ (0x2C000 + (n - 0xC000))) ∧
    (rd → 0xD000 ≤ n → n < 0xE000 → bit 6 = true → at_ (0x29000 + (n - 0xD000))) ∧
    (rd → 0xE000 ≤ n → bit 7 = true → at_ (0x3E000 + (n - 0xE000))) ∧
    (cram → ¬(rd ∧ bit 6 = true) → s.translate acc a = .colour (BitVec.ofNat 11 (n - 0xD800))) ∧
    (¬cram →
      ¬(rd ∧ ((0x8000 ≤ n ∧ n < 0xA000 ∧ bit 3 = true) ∨ (0xA000 ≤ n ∧ n < 0xC000 ∧ bit 4 = true) ∨
        (0xC000 ≤ n ∧ n < 0xD000 ∧ bit 5 = true) ∨ (0xD000 ≤ n ∧ n < 0xE000 ∧ bit 6 = true) ∨
        (0xE000 ≤ n ∧ bit 7 = true))) →
      s.translate acc a = { s with d030 := 0x00#8 }.translate acc a) ∧
    ∀ k : BitVec 11, (colourWindow k).toNat = 0x1F800 + k.toNat ∧ (colourRam k).toNat = 0xFF80000 + k.toNat

/-- O48. Stores to the CPU port, SPEEDBIAS, $D030, HREG and the colour RAM, by the window and by the I/O block. R41, R43, R44, R68, R74: devices inside the CPU. The model's choices: a write that the port takes leaves the RAM beneath alone (log entry 16), and $D030 appears in every I/O mode (log entry 25), as does the colour RAM (log entry 15). Which slots are stored is the layout `cfg.hregLayout` (log entry 8), for every layout. -/
def Obligations.CpuRegisterStores : Prop :=
  ∀ (i : Instr) (s : State) (r : Reg) (m : MemMode) (len : Nat) (pl : Place), formOf i = .store r m len →
    s.place m = some pl →
    let v := s.reg r
    let t := s.advance len
    (s.target .write pl = .portDdr → exec i s = .next { t with portDdr := v }) ∧
    (s.target .write pl = .portData → exec i s = .next { t with portData := v }) ∧
    (∀ k : BitVec 11, s.target .write pl = .colour k → s.kindOf (colourWindow k) = .ram → s.kindOf (colourRam k) = .ram →
      let ws := [(colourWindow k, v), (colourRam k, v)]
      exec i s = .next (t.storeAll ws) ∧ Writes s (t.storeAll ws) ws) ∧
    (∀ p off, s.target .write pl = .phys p → s.kindOf p = .io off →
      (off = 0x030#12 → exec i s = .next { t with d030 := v, trace := .write p v :: s.trace }) ∧
      (off = 0x7FA#12 → s.ioMode = ioMega65 → exec i s = .next { t with speedBias := v }) ∧
      (∀ k : BitVec 11, k.toNat < 0x400 → off = 0x800#12 + k.setWidth 12 → s.kindOf (colourWindow k) = .ram →
        s.kindOf (colourRam k) = .ram →
        let ws := [(colourWindow k, v), (colourRam k, v)]
        exec i s = .next (t.storeAll ws) ∧ Writes s (t.storeAll ws) ws) ∧
      ∀ n : BitVec 6, off = 0x640#12 + n.setWidth 12 → s.ioMode = ioMega65 → s.hyper = true → s.hregStored n = true →
        n ≠ 0x3F#6 → exec i s = .next { t with hreg := s.hreg.set n.toNat v n.isLt })

/-- O49. Devices answer and are told; ROM keeps its bytes; hypervisor memory is inhibited in normal mode. R60, R71, R72 (D13, D14), R81; stated on the physical access that every data access ends in, and for loads and stores of a device. -/
def Obligations.PhysicalAccess : Prop :=
  (∀ (c : Ctx) (acc : Access) (p : Phys) (v w : Byte) (rest : List Byte),
    let device : Prop := c.st.kindOf p = .platform ∨ ∃ off, c.st.kindOf p = .io off ∧ c.st.ioReg off = .device
    (device ∨ (c.st.kindOf p = .hyperMem ∧ c.st.hyper = false) → c.st.answers = w :: rest →
      c.physRead acc p = (w, { c with st := { c.st with answers := rest, trace := .read p w :: c.st.trace } })) ∧
    (device → c.physWrite p v = { c with st := { c.st with trace := .write p v :: c.st.trace } }) ∧
    (c.st.kindOf p = .rom →
      c.physRead acc p = (Memory.read c.st.mem p.toNat, c) ∧
      (c.st.cfg.romWritable = false → c.physWrite p v = c) ∧
      (c.st.cfg.romWritable = true →
        c.physWrite p v = { c with st := { c.st with mem := Memory.write c.st.mem p.toNat v } })) ∧
    (c.st.kindOf p = .hyperMem → c.st.hyper = false → c.physWrite p v = c)) ∧
  ∀ (i : Instr) (s : State) (r : Reg) (m : MemMode) (len : Nat) (pl : Place) (p : Phys), s.place m = some pl →
    s.kindOf p = .platform ∨ (∃ off, s.kindOf p = .io off ∧ s.ioReg off = .device) →
    (∀ (w : Byte) (rest : List Byte), formOf i = .load r (.mem m) len → s.target .read pl = .phys p →
      s.answers = w :: rest →
      exec i s = .next
        { (s.advance len).setReg r w with
          fl := { s.fl with n := w.getLsbD 7, z := w == 0x00#8 }, answers := rest, trace := .read p w :: s.trace }) ∧
    (formOf i = .store r m len → s.target .write pl = .phys p →
      exec i s = .next { s.advance len with trace := .write p (s.reg r) :: s.trace })

/-- O50. Touching $D640-$D67F in normal mode: the instruction completes, and the lowest register touched is its SYSCALL. R461, R74, R193 (D27, D32, for both values of `SyscallOnRead`). That a SYSCALL pending before the instruction counts with it is the model's choice (log entries 14 and 27). -/
def Obligations.SyscallAccess : Prop :=
  (∀ (i : Instr) (s t : State), exec i s = .next t →
    Lowest (fun n => s.syscall = some n ∨ ∃ x ∈ (formOf i).sites s, x.syscalls n) t.syscall) ∧
  (∀ (c : Ctx) (pl : Place) (v : Byte) (n : BitVec 6), (c.site .write pl).syscalls n →
    c.write8 pl v = { c with st := { c.st with syscall := (c.write8 pl v).st.syscall } }) ∧
  (∀ (i : Instr) (s : State) (r : Reg) (m : MemMode) (len : Nat) (pl : Place) (p : Phys) (n : BitVec 6),
    s.place m = some pl → s.kindOf p = .io (0x640#12 + n.setWidth 12) → s.ioMode = ioMega65 → s.hyper = false →
    s.syscall = none →
    (formOf i = .store r m len → s.target .write pl = .phys p →
      exec i s = .next { s.advance len with syscall := some n }) ∧
    (formOf i = .load r (.mem m) len → s.target .read pl = .phys p →
      ∃ t, exec i s = .next t ∧ t.syscall = (if s.cfg.syscallOnRead then some n else none) ∧
        t.fl = { s.fl with n := (t.reg r).getLsbD 7, z := t.reg r == 0x00#8 } ∧
        t = { (s.advance len).setReg r (t.reg r) with
              fl := t.fl, syscall := t.syscall, answers := t.answers, trace := t.trace, free := t.free })) ∧
  ∀ (i : Instr) (s : State) (m : MemMode) (len : Nat) (pl : Place) (p0 p1 p2 p3 : Phys),
    formOf i = .storeQ m len → s.place m = some pl → s.hyper = false → s.ioMode = ioMega65 →
    s.target .write pl = .phys p0 → s.target .write (pl.plus 1) = .phys p1 →
    s.target .write (pl.plus 2) = .phys p2 → s.target .write (pl.plus 3) = .phys p3 →
    let ws := [(p0, s.a), (p1, s.x), (p2, s.y), (p3, s.z)]
    (∀ w ∈ ws, s.isDevice w.1 = true ∨ ∃ n : BitVec 6, s.kindOf w.1 = .io (0x640#12 + n.setWidth 12)) →
    ∃ t, exec i s = .next t ∧
      t = { s.advance len with
            syscall := t.syscall
            trace := ((ws.filter fun w => s.isDevice w.1).map fun w => .write w.1 w.2).reverse ++ s.trace }

/-- O51. Trap entry: every register saved, the hypervisor layout, PC at $8000 + 4t; a SYSCALL takes it. R470 to R473, R461. The values are the spec's decision D20; MAPLO_OFF and MB_LO are unspecified. The parameters are those `Config.wf` allows, which the invariant keeps; of the HREG layout that is only "each saved item has some slot, `$D67F` is the exit". -/
def Obligations.TrapEntry : Prop :=
  (∀ (s : State) (n : BitVec 7), let t := s.trapEnter n
    (s.cfg.wf = true → ∀ it, t.saved it = it.value s) ∧ t.savedMapInhibit = s.mapInhibit ∧
    t.pc.toNat = 0x8000 + 4 * n.toNat ∧ t.hyper = true ∧
    t.fl = { s.fl with d := false, i := true, e := true } ∧ t.b = 0xBF#8 ∧ t.sph = 0xBE#8 ∧ t.spl = 0xFF#8 ∧
    t.a = s.a ∧ t.x = s.x ∧ t.y = s.y ∧ t.z = s.z ∧ t.mem = s.mem ∧ t.map.loEn = 0x0#4 ∧ t.mapInhibit = false ∧
    t.portDdr = s.cfg.hyperPortDdr ∧ t.portData = s.cfg.hyperPortData ∧ t.ioMode = ioMega65 ∧
    (s.cfg.wf = true → ∀ (acc : Access) (a : Word), 0x8000 ≤ a.toNat → a.toNat < 0xC000 →
      t.translate acc a = .phys (s.cfg.hyperBase + BitVec.ofNat 28 (a.toNat - 0x8000)))) ∧
  ∀ (s : State) (n : BitVec 6), s.accept.syscall = some n → s.accept.resetLine = false → s.accept.hyper = false →
    s.accept.atEntry = false → step s = .next (State.trapEnter (n.setWidth 7) { s.accept with syscall := none })

/-- O52. A write of $D67F in hypervisor mode returns: every register as it was saved, normal mode. R474, R480 (D33). Which slot of HREG holds which register is the layout `cfg.hregLayout`, and MapInhibit has none (log entry 8), for every layout. -/
def Obligations.TrapReturn : Prop :=
  (∀ (i : Instr) (s : State) (r : Reg) (m : MemMode) (len : Nat) (pl : Place) (p : Phys), formOf i = .store r m len →
    s.place m = some pl → s.target .write pl = .phys p → s.kindOf p = .io 0x67F#12 → s.ioMode = ioMega65 →
    s.hyper = true →
    exec i s = .next (State.trapReturn { s.advance len with hreg := s.hreg.set 63 (s.reg r) })) ∧
  (∀ (c : Ctx) (pl : Place) (v : Byte), (c.site .write pl).exits →
    c.write8 pl v = { st := { c.st with hreg := c.st.hreg.set 63 v }, leave := true }) ∧
  (∀ c : Ctx, c.leave = true → c.done = .next c.st.trapReturn) ∧
  (∀ (i : Instr) (s t : State), exec i s = .next t → (∃ x ∈ (formOf i).sites s, x.exits) →
    ∃ u : State, u.hyper = true ∧ t = u.trapReturn) ∧
  (∀ (s : State) (n : BitVec 7), s.cfg.wf = true →
    let t := (s.trapEnter n).trapReturn
    t = { s with hyper := false, hreg := t.hreg, savedMapInhibit := t.savedMapInhibit, free := t.free,
                 atEntry := t.atEntry }) ∧
  ∀ u : State,
    let t := u.trapReturn
    (∀ it : SavedItem, it ≠ .p → it.value t = u.hregAt (it.slot u.cfg.hregLayout)) ∧
    (let p := u.hregAt u.cfg.hregLayout.p
     t.fl = { n := p.getLsbD 7, v := p.getLsbD 6, e := p.getLsbD 5, d := p.getLsbD 3, i := p.getLsbD 2,
              z := p.getLsbD 1, c := p.getLsbD 0 }) ∧
    t.mapInhibit = u.savedMapInhibit ∧ t.hyper = false ∧
    t = { u with
          a := t.a, x := t.x, y := t.y, z := t.z, b := t.b, spl := t.spl, sph := t.sph, fl := t.fl, pc := t.pc
          map := t.map, portDdr := t.portDdr, portData := t.portData, ioMode := t.ioMode
          mapInhibit := t.mapInhibit, hyper := false }

/-- O53. A reset from any state: hypervisor mode at $8100, memory kept. R479, R49, with D20's values; that memory and A, X, Y, Z are kept, and that a pending SYSCALL is dropped, is the model's choice (log entries 14 and 21). -/
def Obligations.ResetEvent : Prop :=
  ∀ s : State, let t := s.take .reset
    t.pc = 0x8100#16 ∧ t.hyper = true ∧ t.fl.d = false ∧ t.fl.i = true ∧ t.fl.e = true ∧ t.b = 0xBF#8 ∧
    t.sph = 0xBE#8 ∧ t.spl = 0xFF#8 ∧ t.map.loEn = 0x0#4 ∧ t.mapInhibit = false ∧ t.speedBias = 0x80#8 ∧
    t.resetLine = false ∧ t.syscall = none ∧ t.mem = s.mem

/-- O54. State.reset has the values the spec gives for reset. R49 and R472, with the values of D20. -/
def Obligations.ResetState : Prop :=
  let s := State.reset
  s.pc = 0x8100#16 ∧ s.hyper = true ∧ s.fl.d = false ∧ s.fl.i = true ∧ s.fl.e = true ∧ s.b = 0xBF#8 ∧
  s.sph = 0xBE#8 ∧ s.spl = 0xFF#8 ∧ s.map.loEn = 0x0#4 ∧ s.mapInhibit = false ∧ s.speedBias = 0x80#8 ∧
  s.translate .fetch 0x8000#16 = .phys s.cfg.hyperBase ∧
  s.translate .fetch 0xBFFF#16 = .phys (s.cfg.hyperBase + 0x3FFF#28)

/-- O55. The state after reset meets the invariant. R60; the canonical form and the parameters' values are the model's (log entries 1, 6, 8). -/
def Obligations.InvAtReset : Prop :=
  Inv State.reset

/-- O56. Every step keeps the memory canonical and inside the 28-bit space, and the parameters well-formed. R60, R63, R76, R86; the canonical form is the model's. -/
def Obligations.StepKeepsInv : Prop :=
  ∀ s t : State, Inv s → step s = .next t → Inv t

/-- O57. No step from normal mode changes a byte of the hypervisor memory. R72: "This memory is not mappable by any means when the processor is in the normal mode". -/
def Obligations.HypervisorMemoryKept : Prop :=
  ∀ s t : State, s.hyper = false → step s = .next t →
    ∀ p : Phys, s.inHyper p = true → Memory.read t.mem p.toNat = Memory.read s.mem p.toNat

/-- O58. Hypervisor mode is entered only by a reset, SYSCALL or platform trap, at a trap-table entry. R460, R471, R477: "Entered only by a trap". -/
def Obligations.EnteringHypervisor : Prop :=
  ∀ s t : State, s.hyper = false → step s = .next t → t.hyper = true →
    ∃ (e : Event) (n : BitVec 7), s.accept.eventNow = some e ∧ e ≠ .irq ∧ e ≠ .nmi ∧ t.pc.toNat = 0x8000 + 4 * n.toNat

/-- O59. Hypervisor mode is left exactly by an instruction that writes $D67F in hypervisor mode. R477, R480, R481: "left only by a write to `$D67F`"; "RTI and RTS do not change it". `Site.exits` is that write; the accesses of an instruction are computed by its meaning's own functions. -/
def Obligations.LeavingHypervisor : Prop :=
  (∀ s t : State, s.hyper = true → step s = .next t → t.hyper = false →
    s.accept.eventNow = none ∧
      ∃ (i : Instr) (u : State), u.hyper = true ∧ step s = exec i u ∧ ∃ x ∈ (formOf i).sites u, x.exits) ∧
  (∀ x : Site, x.exits ↔
    x.acc = .write ∧ x.ctx.st.hyper = true ∧ x.ctx.st.ioMode = ioMega65 ∧
      ∃ p, x.ctx.st.target .write x.place = .phys p ∧ x.ctx.st.kindOf p = .io 0x67F#12) ∧
  ∀ (i : Instr) (s t : State), exec i s = .next t →
    (s.hyper = false → t.hyper = false) ∧
    (s.hyper = true → (t.hyper = false ↔ ∃ x ∈ (formOf i).sites s, x.exits)) ∧
    ((∀ x ∈ (formOf i).sites s, x.acc = .read) → t.hyper = s.hyper) ∧
    ∀ len : Nat,
      formOf i = .retInterrupt len ∨ (∃ n, formOf i = .ret n len) ∨ (∃ r src, formOf i = .load r src len) ∨
        (∃ m, formOf i = .loadQ m len) ∨ (∃ r, formOf i = .pull r len) ∨ formOf i = .pullFlags len ∨
        (∃ a, formOf i = .jump a len) ∨ (∃ k d, formOf i = .branch k d len) ∨
        (∃ d r, formOf i = .transferNZ d r len) ∨ (∃ d r, formOf i = .transfer d r len) ∨
        (∃ op, formOf i = .flag op len) ∨ formOf i = .loadMap len ∨ formOf i = .endMap len →
      t.hyper = s.hyper

/-- O60. Fetching an instruction never raises a SYSCALL and changes nothing but the platform's answers. R74, R461 (D32): instruction fetch from $D640-$D67F never traps. -/
def Obligations.FetchNeverTraps : Prop :=
  ∀ (s t : State) (n : Nat) (a : Word) (b : Byte), (b, t) ∈ fetchBytes n a s →
    t = { s with answers := t.answers, trace := t.trace, free := t.free }
end

