-- ==== Sys2Proof/Laws/Memory.lean ====
section
/-! SUPPORT. The laws of memory: read after write, and that every operation keeps the canonical form. -/

namespace Sys2Proof.Machine

@[simp] theorem Memory.read_nil (p : Nat) : Memory.read [] p = Memory.unlisted := rfl

/-- A cell list all of whose addresses are above `p` reads as unlisted at `p`. -/
theorem Memory.read_dropWhile (m : List Host.Cell) (p : Nat) :
    Memory.read (m.dropWhile fun c => decide (c.1 ≤ p)) p = Memory.unlisted := by
  induction m with
  | nil => rfl
  | cons c m ih =>
    simp only [List.dropWhile_cons]
    split
    · exact ih
    · rename_i h
      have : p < c.1 := by simpa using h
      simp [Memory.read, this, Nat.ne_of_lt this]

theorem Memory.read_dropWhile_gt (m : List Host.Cell) {p q : Nat} (h : p < q) :
    Memory.read (m.dropWhile fun c => decide (c.1 ≤ p)) q = Memory.read m q := by
  induction m with
  | nil => rfl
  | cons c m ih =>
    simp only [List.dropWhile_cons]
    split
    · rename_i hc
      have : c.1 ≤ p := by simpa using hc
      rw [ih]
      simp only [Memory.read]
      rw [if_neg (by omega), if_neg (by omega)]
    · rfl

/-- Reading after a write: the byte written at its address, every other byte as before. -/
theorem Memory.read_write (m : List Host.Cell) (p q : Nat) (v : Byte) :
    Memory.read (Memory.write m p v) q = if q = p then v else Memory.read m q := by
  induction m with
  | nil =>
    unfold Memory.write
    split
    · rename_i h; simp [h]
    · by_cases hq : q = p
      · simp [Memory.read, hq]
      · simp [Memory.read, hq]
  | cons c m ih =>
    obtain ⟨k, w⟩ := c
    unfold Memory.write
    split
    · rename_i hk
      split
      · rename_i hv
        by_cases hq : q = p
        · subst hq
          simp [Memory.read, hv, hk, Nat.ne_of_lt hk]
        · simp [hq]
      · by_cases hq : q = p
        · simp [Memory.read, hq]
        · simp only [Memory.read, hq, if_false]
          split
          · rw [if_neg (by omega), if_pos (by omega)]
          · rfl
    · rename_i hk
      split
      · rename_i he
        subst he
        split
        · rename_i hv
          by_cases hq : q = p
          · subst hq; simp [Memory.read_dropWhile, hv]
          · rw [if_neg hq]
            by_cases hlt : p < q
            · rw [Memory.read_dropWhile_gt m hlt]
              simp only [Memory.read]
              rw [if_neg hq, if_neg (by omega)]
            · have hlt' : q < p := by omega
              simp only [Memory.read]
              rw [if_neg hq, if_pos hlt']
              clear ih hk
              induction m with
              | nil => rfl
              | cons c m ih =>
                simp only [List.dropWhile_cons]
                split
                · exact ih
                · rename_i hc
                  have : p < c.1 := by simpa using hc
                  simp only [Memory.read]
                  rw [if_neg (by omega), if_pos (by omega)]
        · by_cases hq : q = p
          · simp [Memory.read, hq]
          · simp [Memory.read, hq]
      · rename_i he
        simp only [Memory.read]
        rw [ih]
        by_cases hq : q = p
        · subst hq
          rw [if_neg he, if_neg hk]
          simp
        · simp [hq]

@[simp] theorem Memory.read_write_same (m : List Host.Cell) (p : Nat) (v : Byte) :
    Memory.read (Memory.write m p v) p = v := by simp [Memory.read_write]

theorem Memory.read_write_ne (m : List Host.Cell) {p q : Nat} (v : Byte) (h : q ≠ p) :
    Memory.read (Memory.write m p v) q = Memory.read m q := by simp [Memory.read_write, h]

/-- The cells after a write are old cells, or the one written. -/
theorem Memory.mem_write {m : List Host.Cell} {p : Nat} {v : Byte} {c : Host.Cell} (h : c ∈ Memory.write m p v) :
    c ∈ m ∨ (c = (p, v) ∧ v ≠ Memory.unlisted) := by
  induction m with
  | nil =>
    unfold Memory.write at h
    split at h
    · simp at h
    · rename_i hv; simp at h; exact .inr ⟨h, hv⟩
  | cons d m ih =>
    obtain ⟨k, w⟩ := d
    unfold Memory.write at h
    split at h
    · split at h
      · exact .inl h
      · rename_i hv
        rcases List.mem_cons.1 h with h | h
        · exact .inr ⟨h, hv⟩
        · exact .inl h
    · split at h
      · split at h
        · exact .inl (List.mem_cons_of_mem _ ((List.dropWhile_suffix _).subset h))
        · rename_i hv
          rcases List.mem_cons.1 h with h | h
          · exact .inr ⟨h, hv⟩
          · exact .inl (List.mem_cons_of_mem _ h)
      · rcases List.mem_cons.1 h with h | h
        · exact .inl (h ▸ List.mem_cons_self)
        · rcases ih h with h | h
          · exact .inl (List.mem_cons_of_mem _ h)
          · exact .inr h

theorem Memory.wf_nil : Memory.wf [] := ⟨List.Pairwise.nil, fun _ h => absurd h List.not_mem_nil⟩

/-- A write keeps the canonical form. -/
theorem Memory.write_wf {m : List Host.Cell} (h : Memory.wf m) (p : Nat) (v : Byte) : Memory.wf (Memory.write m p v) := by
  refine ⟨?_, fun c hc => ?_⟩
  · have hs := h.1
    clear h
    induction m with
    | nil => unfold Memory.write; split <;> simp
    | cons d m ih =>
      obtain ⟨k, w⟩ := d
      have ⟨h1, h2⟩ := List.pairwise_cons.1 hs
      unfold Memory.write
      split
      · rename_i hk
        split
        · exact hs
        · refine List.pairwise_cons.2 ⟨fun c hc => ?_, hs⟩
          rcases List.mem_cons.1 hc with hc | hc
          · subst hc; exact hk
          · exact Nat.lt_trans hk (h1 c hc)
      · rename_i hk
        split
        · rename_i he
          split
          · exact h2.sublist (List.dropWhile_sublist _)
          · exact List.pairwise_cons.2 ⟨fun c hc => he ▸ h1 c hc, h2⟩
        · rename_i he
          refine List.pairwise_cons.2 ⟨fun c hc => ?_, ih h2⟩
          rcases Memory.mem_write hc with hc | ⟨hc, -⟩
          · exact h1 c hc
          · subst hc; show k < p; omega
  · rcases Memory.mem_write hc with hc | ⟨hc, hv⟩
    · exact h.2 c hc
    · subst hc; exact hv

/-- A write inside a range keeps every address inside it. -/
theorem Memory.write_inSpace {m : List Host.Cell} {b p : Nat} (h : ∀ c ∈ m, c.1 < b) (hp : p < b) (v : Byte) :
    ∀ c ∈ Memory.write m p v, c.1 < b := fun c hc => by
  rcases Memory.mem_write hc with hc | ⟨hc, -⟩
  · exact h c hc
  · subst hc; exact hp

end Sys2Proof.Machine
end

