-- ==== Sys2Proof/Laws/State.lean ====
section
/-! SUPPORT. One lemma for each field and each update of State: what an update leaves alone, and what it writes. -/

namespace Sys2Proof.Machine

/-! ### setReg -/

@[simp] theorem State.setReg_pc (s : State) (r : Reg) (v : Byte) : (s.setReg r v).pc = s.pc := by cases r <;> rfl
@[simp] theorem State.setReg_fl (s : State) (r : Reg) (v : Byte) : (s.setReg r v).fl = s.fl := by cases r <;> rfl
@[simp] theorem State.setReg_map (s : State) (r : Reg) (v : Byte) : (s.setReg r v).map = s.map := by cases r <;> rfl
@[simp] theorem State.setReg_mapInhibit (s : State) (r : Reg) (v : Byte) : (s.setReg r v).mapInhibit = s.mapInhibit := by cases r <;> rfl
@[simp] theorem State.setReg_hyper (s : State) (r : Reg) (v : Byte) : (s.setReg r v).hyper = s.hyper := by cases r <;> rfl
@[simp] theorem State.setReg_portDdr (s : State) (r : Reg) (v : Byte) : (s.setReg r v).portDdr = s.portDdr := by cases r <;> rfl
@[simp] theorem State.setReg_portData (s : State) (r : Reg) (v : Byte) : (s.setReg r v).portData = s.portData := by cases r <;> rfl
@[simp] theorem State.setReg_hreg (s : State) (r : Reg) (v : Byte) : (s.setReg r v).hreg = s.hreg := by cases r <;> rfl
@[simp] theorem State.setReg_savedMapInhibit (s : State) (r : Reg) (v : Byte) : (s.setReg r v).savedMapInhibit = s.savedMapInhibit := by cases r <;> rfl
@[simp] theorem State.setReg_speedBias (s : State) (r : Reg) (v : Byte) : (s.setReg r v).speedBias = s.speedBias := by cases r <;> rfl
@[simp] theorem State.setReg_d030 (s : State) (r : Reg) (v : Byte) : (s.setReg r v).d030 = s.d030 := by cases r <;> rfl
@[simp] theorem State.setReg_ioMode (s : State) (r : Reg) (v : Byte) : (s.setReg r v).ioMode = s.ioMode := by cases r <;> rfl
@[simp] theorem State.setReg_irqLine (s : State) (r : Reg) (v : Byte) : (s.setReg r v).irqLine = s.irqLine := by cases r <;> rfl
@[simp] theorem State.setReg_nmiPending (s : State) (r : Reg) (v : Byte) : (s.setReg r v).nmiPending = s.nmiPending := by cases r <;> rfl
@[simp] theorem State.setReg_resetLine (s : State) (r : Reg) (v : Byte) : (s.setReg r v).resetLine = s.resetLine := by cases r <;> rfl
@[simp] theorem State.setReg_trapRequest (s : State) (r : Reg) (v : Byte) : (s.setReg r v).trapRequest = s.trapRequest := by cases r <;> rfl
@[simp] theorem State.setReg_syscall (s : State) (r : Reg) (v : Byte) : (s.setReg r v).syscall = s.syscall := by cases r <;> rfl
@[simp] theorem State.setReg_mem (s : State) (r : Reg) (v : Byte) : (s.setReg r v).mem = s.mem := by cases r <;> rfl
@[simp] theorem State.setReg_cfg (s : State) (r : Reg) (v : Byte) : (s.setReg r v).cfg = s.cfg := by cases r <;> rfl
@[simp] theorem State.setReg_inputs (s : State) (r : Reg) (v : Byte) : (s.setReg r v).inputs = s.inputs := by cases r <;> rfl
@[simp] theorem State.setReg_answers (s : State) (r : Reg) (v : Byte) : (s.setReg r v).answers = s.answers := by cases r <;> rfl
@[simp] theorem State.setReg_free (s : State) (r : Reg) (v : Byte) : (s.setReg r v).free = s.free := by cases r <;> rfl
@[simp] theorem State.setReg_trace (s : State) (r : Reg) (v : Byte) : (s.setReg r v).trace = s.trace := by cases r <;> rfl
@[simp] theorem State.setReg_atEntry (s : State) (r : Reg) (v : Byte) : (s.setReg r v).atEntry = s.atEntry := by cases r <;> rfl
@[simp] theorem State.setReg_reg (s : State) (r : Reg) (v : Byte) : (s.setReg r v).reg r = v := by cases r <;> rfl
theorem State.setReg_reg_ne (s : State) {r r' : Reg} (v : Byte) (h : r' ≠ r) : (s.setReg r v).reg r' = s.reg r' := by
  cases r <;> cases r' <;> first | rfl | exact absurd rfl h

/-! ### setRegNZ -/

@[simp] theorem State.setRegNZ_pc (s : State) (r : Reg) (v : Byte) : (s.setRegNZ r v).pc = s.pc := by cases r <;> rfl
@[simp] theorem State.setRegNZ_map (s : State) (r : Reg) (v : Byte) : (s.setRegNZ r v).map = s.map := by cases r <;> rfl
@[simp] theorem State.setRegNZ_mapInhibit (s : State) (r : Reg) (v : Byte) : (s.setRegNZ r v).mapInhibit = s.mapInhibit := by cases r <;> rfl
@[simp] theorem State.setRegNZ_hyper (s : State) (r : Reg) (v : Byte) : (s.setRegNZ r v).hyper = s.hyper := by cases r <;> rfl
@[simp] theorem State.setRegNZ_portDdr (s : State) (r : Reg) (v : Byte) : (s.setRegNZ r v).portDdr = s.portDdr := by cases r <;> rfl
@[simp] theorem State.setRegNZ_portData (s : State) (r : Reg) (v : Byte) : (s.setRegNZ r v).portData = s.portData := by cases r <;> rfl
@[simp] theorem State.setRegNZ_hreg (s : State) (r : Reg) (v : Byte) : (s.setRegNZ r v).hreg = s.hreg := by cases r <;> rfl
@[simp] theorem State.setRegNZ_savedMapInhibit (s : State) (r : Reg) (v : Byte) : (s.setRegNZ r v).savedMapInhibit = s.savedMapInhibit := by cases r <;> rfl
@[simp] theorem State.setRegNZ_speedBias (s : State) (r : Reg) (v : Byte) : (s.setRegNZ r v).speedBias = s.speedBias := by cases r <;> rfl
@[simp] theorem State.setRegNZ_d030 (s : State) (r : Reg) (v : Byte) : (s.setRegNZ r v).d030 = s.d030 := by cases r <;> rfl
@[simp] theorem State.setRegNZ_ioMode (s : State) (r : Reg) (v : Byte) : (s.setRegNZ r v).ioMode = s.ioMode := by cases r <;> rfl
@[simp] theorem State.setRegNZ_irqLine (s : State) (r : Reg) (v : Byte) : (s.setRegNZ r v).irqLine = s.irqLine := by cases r <;> rfl
@[simp] theorem State.setRegNZ_nmiPending (s : State) (r : Reg) (v : Byte) : (s.setRegNZ r v).nmiPending = s.nmiPending := by cases r <;> rfl
@[simp] theorem State.setRegNZ_resetLine (s : State) (r : Reg) (v : Byte) : (s.setRegNZ r v).resetLine = s.resetLine := by cases r <;> rfl
@[simp] theorem State.setRegNZ_trapRequest (s : State) (r : Reg) (v : Byte) : (s.setRegNZ r v).trapRequest = s.trapRequest := by cases r <;> rfl
@[simp] theorem State.setRegNZ_syscall (s : State) (r : Reg) (v : Byte) : (s.setRegNZ r v).syscall = s.syscall := by cases r <;> rfl
@[simp] theorem State.setRegNZ_mem (s : State) (r : Reg) (v : Byte) : (s.setRegNZ r v).mem = s.mem := by cases r <;> rfl
@[simp] theorem State.setRegNZ_cfg (s : State) (r : Reg) (v : Byte) : (s.setRegNZ r v).cfg = s.cfg := by cases r <;> rfl
@[simp] theorem State.setRegNZ_inputs (s : State) (r : Reg) (v : Byte) : (s.setRegNZ r v).inputs = s.inputs := by cases r <;> rfl
@[simp] theorem State.setRegNZ_answers (s : State) (r : Reg) (v : Byte) : (s.setRegNZ r v).answers = s.answers := by cases r <;> rfl
@[simp] theorem State.setRegNZ_free (s : State) (r : Reg) (v : Byte) : (s.setRegNZ r v).free = s.free := by cases r <;> rfl
@[simp] theorem State.setRegNZ_trace (s : State) (r : Reg) (v : Byte) : (s.setRegNZ r v).trace = s.trace := by cases r <;> rfl
@[simp] theorem State.setRegNZ_atEntry (s : State) (r : Reg) (v : Byte) : (s.setRegNZ r v).atEntry = s.atEntry := by cases r <;> rfl
@[simp] theorem State.setRegNZ_fl (s : State) (r : Reg) (v : Byte) : (s.setRegNZ r v).fl = s.fl.nz v := rfl
@[simp] theorem State.setRegNZ_reg (s : State) (r : Reg) (v : Byte) : (s.setRegNZ r v).reg r = v := by cases r <;> rfl

/-! ### setQ -/

@[simp] theorem State.setQ_b (s : State) (v : Quad) : (s.setQ v).b = s.b := rfl
@[simp] theorem State.setQ_sph (s : State) (v : Quad) : (s.setQ v).sph = s.sph := rfl
@[simp] theorem State.setQ_spl (s : State) (v : Quad) : (s.setQ v).spl = s.spl := rfl
@[simp] theorem State.setQ_pc (s : State) (v : Quad) : (s.setQ v).pc = s.pc := rfl
@[simp] theorem State.setQ_fl (s : State) (v : Quad) : (s.setQ v).fl = s.fl := rfl
@[simp] theorem State.setQ_map (s : State) (v : Quad) : (s.setQ v).map = s.map := rfl
@[simp] theorem State.setQ_mapInhibit (s : State) (v : Quad) : (s.setQ v).mapInhibit = s.mapInhibit := rfl
@[simp] theorem State.setQ_hyper (s : State) (v : Quad) : (s.setQ v).hyper = s.hyper := rfl
@[simp] theorem State.setQ_portDdr (s : State) (v : Quad) : (s.setQ v).portDdr = s.portDdr := rfl
@[simp] theorem State.setQ_portData (s : State) (v : Quad) : (s.setQ v).portData = s.portData := rfl
@[simp] theorem State.setQ_hreg (s : State) (v : Quad) : (s.setQ v).hreg = s.hreg := rfl
@[simp] theorem State.setQ_savedMapInhibit (s : State) (v : Quad) : (s.setQ v).savedMapInhibit = s.savedMapInhibit := rfl
@[simp] theorem State.setQ_speedBias (s : State) (v : Quad) : (s.setQ v).speedBias = s.speedBias := rfl
@[simp] theorem State.setQ_d030 (s : State) (v : Quad) : (s.setQ v).d030 = s.d030 := rfl
@[simp] theorem State.setQ_ioMode (s : State) (v : Quad) : (s.setQ v).ioMode = s.ioMode := rfl
@[simp] theorem State.setQ_irqLine (s : State) (v : Quad) : (s.setQ v).irqLine = s.irqLine := rfl
@[simp] theorem State.setQ_nmiPending (s : State) (v : Quad) : (s.setQ v).nmiPending = s.nmiPending := rfl
@[simp] theorem State.setQ_resetLine (s : State) (v : Quad) : (s.setQ v).resetLine = s.resetLine := rfl
@[simp] theorem State.setQ_trapRequest (s : State) (v : Quad) : (s.setQ v).trapRequest = s.trapRequest := rfl
@[simp] theorem State.setQ_syscall (s : State) (v : Quad) : (s.setQ v).syscall = s.syscall := rfl
@[simp] theorem State.setQ_mem (s : State) (v : Quad) : (s.setQ v).mem = s.mem := rfl
@[simp] theorem State.setQ_cfg (s : State) (v : Quad) : (s.setQ v).cfg = s.cfg := rfl
@[simp] theorem State.setQ_inputs (s : State) (v : Quad) : (s.setQ v).inputs = s.inputs := rfl
@[simp] theorem State.setQ_answers (s : State) (v : Quad) : (s.setQ v).answers = s.answers := rfl
@[simp] theorem State.setQ_free (s : State) (v : Quad) : (s.setQ v).free = s.free := rfl
@[simp] theorem State.setQ_trace (s : State) (v : Quad) : (s.setQ v).trace = s.trace := rfl
@[simp] theorem State.setQ_atEntry (s : State) (v : Quad) : (s.setQ v).atEntry = s.atEntry := rfl

@[simp] theorem State.setQ_q (s : State) (v : Quad) : (s.setQ v).q = v := by
  simp only [State.q, State.setQ]
  ext i hi
  simp only [BitVec.getElem_append, BitVec.getElem_extractLsb']
  split
  · simp [BitVec.getLsbD_eq_getElem hi]
  · split
    · rw [← BitVec.getLsbD_eq_getElem hi]; congr 1; omega
    · split
      · rw [← BitVec.getLsbD_eq_getElem hi]; congr 1; omega
      · rw [← BitVec.getLsbD_eq_getElem hi]; congr 1; omega

@[simp] theorem State.q_byte0 (s : State) : s.q.extractLsb' 0 8 = s.a := by
  apply BitVec.eq_of_getLsbD_eq
  intro k hk
  rw [State.q, BitVec.getLsbD_extractLsb']
  interval_cases k <;> simp only [BitVec.getLsbD_append] <;> rfl
@[simp] theorem State.q_byte1 (s : State) : s.q.extractLsb' 8 8 = s.x := by
  apply BitVec.eq_of_getLsbD_eq
  intro k hk
  rw [State.q, BitVec.getLsbD_extractLsb']
  interval_cases k <;> simp only [BitVec.getLsbD_append] <;> rfl
@[simp] theorem State.q_byte2 (s : State) : s.q.extractLsb' 16 8 = s.y := by
  apply BitVec.eq_of_getLsbD_eq
  intro k hk
  rw [State.q, BitVec.getLsbD_extractLsb']
  interval_cases k <;> simp only [BitVec.getLsbD_append] <;> rfl
@[simp] theorem State.q_byte3 (s : State) : s.q.extractLsb' 24 8 = s.z := by
  apply BitVec.eq_of_getLsbD_eq
  intro k hk
  rw [State.q, BitVec.getLsbD_extractLsb']
  interval_cases k <;> simp only [BitVec.getLsbD_append] <;> rfl

/-! ### moveSp -/

@[simp] theorem State.moveSp_a (s : State) (d : Word) : (s.moveSp d).a = s.a := by unfold State.moveSp; split <;> rfl
@[simp] theorem State.moveSp_x (s : State) (d : Word) : (s.moveSp d).x = s.x := by unfold State.moveSp; split <;> rfl
@[simp] theorem State.moveSp_y (s : State) (d : Word) : (s.moveSp d).y = s.y := by unfold State.moveSp; split <;> rfl
@[simp] theorem State.moveSp_z (s : State) (d : Word) : (s.moveSp d).z = s.z := by unfold State.moveSp; split <;> rfl
@[simp] theorem State.moveSp_b (s : State) (d : Word) : (s.moveSp d).b = s.b := by unfold State.moveSp; split <;> rfl
@[simp] theorem State.moveSp_pc (s : State) (d : Word) : (s.moveSp d).pc = s.pc := by unfold State.moveSp; split <;> rfl
@[simp] theorem State.moveSp_fl (s : State) (d : Word) : (s.moveSp d).fl = s.fl := by unfold State.moveSp; split <;> rfl
@[simp] theorem State.moveSp_map (s : State) (d : Word) : (s.moveSp d).map = s.map := by unfold State.moveSp; split <;> rfl
@[simp] theorem State.moveSp_mapInhibit (s : State) (d : Word) : (s.moveSp d).mapInhibit = s.mapInhibit := by unfold State.moveSp; split <;> rfl
@[simp] theorem State.moveSp_hyper (s : State) (d : Word) : (s.moveSp d).hyper = s.hyper := by unfold State.moveSp; split <;> rfl
@[simp] theorem State.moveSp_portDdr (s : State) (d : Word) : (s.moveSp d).portDdr = s.portDdr := by unfold State.moveSp; split <;> rfl
@[simp] theorem State.moveSp_portData (s : State) (d : Word) : (s.moveSp d).portData = s.portData := by unfold State.moveSp; split <;> rfl
@[simp] theorem State.moveSp_hreg (s : State) (d : Word) : (s.moveSp d).hreg = s.hreg := by unfold State.moveSp; split <;> rfl
@[simp] theorem State.moveSp_savedMapInhibit (s : State) (d : Word) : (s.moveSp d).savedMapInhibit = s.savedMapInhibit := by unfold State.moveSp; split <;> rfl
@[simp] theorem State.moveSp_speedBias (s : State) (d : Word) : (s.moveSp d).speedBias = s.speedBias := by unfold State.moveSp; split <;> rfl
@[simp] theorem State.moveSp_d030 (s : State) (d : Word) : (s.moveSp d).d030 = s.d030 := by unfold State.moveSp; split <;> rfl
@[simp] theorem State.moveSp_ioMode (s : State) (d : Word) : (s.moveSp d).ioMode = s.ioMode := by unfold State.moveSp; split <;> rfl
@[simp] theorem State.moveSp_irqLine (s : State) (d : Word) : (s.moveSp d).irqLine = s.irqLine := by unfold State.moveSp; split <;> rfl
@[simp] theorem State.moveSp_nmiPending (s : State) (d : Word) : (s.moveSp d).nmiPending = s.nmiPending := by unfold State.moveSp; split <;> rfl
@[simp] theorem State.moveSp_resetLine (s : State) (d : Word) : (s.moveSp d).resetLine = s.resetLine := by unfold State.moveSp; split <;> rfl
@[simp] theorem State.moveSp_trapRequest (s : State) (d : Word) : (s.moveSp d).trapRequest = s.trapRequest := by unfold State.moveSp; split <;> rfl
@[simp] theorem State.moveSp_syscall (s : State) (d : Word) : (s.moveSp d).syscall = s.syscall := by unfold State.moveSp; split <;> rfl
@[simp] theorem State.moveSp_mem (s : State) (d : Word) : (s.moveSp d).mem = s.mem := by unfold State.moveSp; split <;> rfl
@[simp] theorem State.moveSp_cfg (s : State) (d : Word) : (s.moveSp d).cfg = s.cfg := by unfold State.moveSp; split <;> rfl
@[simp] theorem State.moveSp_inputs (s : State) (d : Word) : (s.moveSp d).inputs = s.inputs := by unfold State.moveSp; split <;> rfl
@[simp] theorem State.moveSp_answers (s : State) (d : Word) : (s.moveSp d).answers = s.answers := by unfold State.moveSp; split <;> rfl
@[simp] theorem State.moveSp_free (s : State) (d : Word) : (s.moveSp d).free = s.free := by unfold State.moveSp; split <;> rfl
@[simp] theorem State.moveSp_trace (s : State) (d : Word) : (s.moveSp d).trace = s.trace := by unfold State.moveSp; split <;> rfl
@[simp] theorem State.moveSp_atEntry (s : State) (d : Word) : (s.moveSp d).atEntry = s.atEntry := by unfold State.moveSp; split <;> rfl

/-! ### setCell -/

@[simp] theorem State.setCell_a (s : State) (p : Phys) (v : Byte) : (s.setCell p v).a = s.a := rfl
@[simp] theorem State.setCell_x (s : State) (p : Phys) (v : Byte) : (s.setCell p v).x = s.x := rfl
@[simp] theorem State.setCell_y (s : State) (p : Phys) (v : Byte) : (s.setCell p v).y = s.y := rfl
@[simp] theorem State.setCell_z (s : State) (p : Phys) (v : Byte) : (s.setCell p v).z = s.z := rfl
@[simp] theorem State.setCell_b (s : State) (p : Phys) (v : Byte) : (s.setCell p v).b = s.b := rfl
@[simp] theorem State.setCell_sph (s : State) (p : Phys) (v : Byte) : (s.setCell p v).sph = s.sph := rfl
@[simp] theorem State.setCell_spl (s : State) (p : Phys) (v : Byte) : (s.setCell p v).spl = s.spl := rfl
@[simp] theorem State.setCell_pc (s : State) (p : Phys) (v : Byte) : (s.setCell p v).pc = s.pc := rfl
@[simp] theorem State.setCell_fl (s : State) (p : Phys) (v : Byte) : (s.setCell p v).fl = s.fl := rfl
@[simp] theorem State.setCell_map (s : State) (p : Phys) (v : Byte) : (s.setCell p v).map = s.map := rfl
@[simp] theorem State.setCell_mapInhibit (s : State) (p : Phys) (v : Byte) : (s.setCell p v).mapInhibit = s.mapInhibit := rfl
@[simp] theorem State.setCell_hyper (s : State) (p : Phys) (v : Byte) : (s.setCell p v).hyper = s.hyper := rfl
@[simp] theorem State.setCell_portDdr (s : State) (p : Phys) (v : Byte) : (s.setCell p v).portDdr = s.portDdr := rfl
@[simp] theorem State.setCell_portData (s : State) (p : Phys) (v : Byte) : (s.setCell p v).portData = s.portData := rfl
@[simp] theorem State.setCell_hreg (s : State) (p : Phys) (v : Byte) : (s.setCell p v).hreg = s.hreg := rfl
@[simp] theorem State.setCell_savedMapInhibit (s : State) (p : Phys) (v : Byte) : (s.setCell p v).savedMapInhibit = s.savedMapInhibit := rfl
@[simp] theorem State.setCell_speedBias (s : State) (p : Phys) (v : Byte) : (s.setCell p v).speedBias = s.speedBias := rfl
@[simp] theorem State.setCell_d030 (s : State) (p : Phys) (v : Byte) : (s.setCell p v).d030 = s.d030 := rfl
@[simp] theorem State.setCell_ioMode (s : State) (p : Phys) (v : Byte) : (s.setCell p v).ioMode = s.ioMode := rfl
@[simp] theorem State.setCell_irqLine (s : State) (p : Phys) (v : Byte) : (s.setCell p v).irqLine = s.irqLine := rfl
@[simp] theorem State.setCell_nmiPending (s : State) (p : Phys) (v : Byte) : (s.setCell p v).nmiPending = s.nmiPending := rfl
@[simp] theorem State.setCell_resetLine (s : State) (p : Phys) (v : Byte) : (s.setCell p v).resetLine = s.resetLine := rfl
@[simp] theorem State.setCell_trapRequest (s : State) (p : Phys) (v : Byte) : (s.setCell p v).trapRequest = s.trapRequest := rfl
@[simp] theorem State.setCell_syscall (s : State) (p : Phys) (v : Byte) : (s.setCell p v).syscall = s.syscall := rfl
@[simp] theorem State.setCell_cfg (s : State) (p : Phys) (v : Byte) : (s.setCell p v).cfg = s.cfg := rfl
@[simp] theorem State.setCell_inputs (s : State) (p : Phys) (v : Byte) : (s.setCell p v).inputs = s.inputs := rfl
@[simp] theorem State.setCell_answers (s : State) (p : Phys) (v : Byte) : (s.setCell p v).answers = s.answers := rfl
@[simp] theorem State.setCell_free (s : State) (p : Phys) (v : Byte) : (s.setCell p v).free = s.free := rfl
@[simp] theorem State.setCell_trace (s : State) (p : Phys) (v : Byte) : (s.setCell p v).trace = s.trace := rfl
@[simp] theorem State.setCell_atEntry (s : State) (p : Phys) (v : Byte) : (s.setCell p v).atEntry = s.atEntry := rfl
@[simp] theorem State.setCell_mem (s : State) (p : Phys) (v : Byte) : (s.setCell p v).mem = Memory.write s.mem p.toNat v := rfl

/-! ### setHreg -/

@[simp] theorem State.setHreg_a (s : State) (n : BitVec 6) (v : Byte) : (s.setHreg n v).a = s.a := rfl
@[simp] theorem State.setHreg_x (s : State) (n : BitVec 6) (v : Byte) : (s.setHreg n v).x = s.x := rfl
@[simp] theorem State.setHreg_y (s : State) (n : BitVec 6) (v : Byte) : (s.setHreg n v).y = s.y := rfl
@[simp] theorem State.setHreg_z (s : State) (n : BitVec 6) (v : Byte) : (s.setHreg n v).z = s.z := rfl
@[simp] theorem State.setHreg_b (s : State) (n : BitVec 6) (v : Byte) : (s.setHreg n v).b = s.b := rfl
@[simp] theorem State.setHreg_sph (s : State) (n : BitVec 6) (v : Byte) : (s.setHreg n v).sph = s.sph := rfl
@[simp] theorem State.setHreg_spl (s : State) (n : BitVec 6) (v : Byte) : (s.setHreg n v).spl = s.spl := rfl
@[simp] theorem State.setHreg_pc (s : State) (n : BitVec 6) (v : Byte) : (s.setHreg n v).pc = s.pc := rfl
@[simp] theorem State.setHreg_fl (s : State) (n : BitVec 6) (v : Byte) : (s.setHreg n v).fl = s.fl := rfl
@[simp] theorem State.setHreg_map (s : State) (n : BitVec 6) (v : Byte) : (s.setHreg n v).map = s.map := rfl
@[simp] theorem State.setHreg_mapInhibit (s : State) (n : BitVec 6) (v : Byte) : (s.setHreg n v).mapInhibit = s.mapInhibit := rfl
@[simp] theorem State.setHreg_hyper (s : State) (n : BitVec 6) (v : Byte) : (s.setHreg n v).hyper = s.hyper := rfl
@[simp] theorem State.setHreg_portDdr (s : State) (n : BitVec 6) (v : Byte) : (s.setHreg n v).portDdr = s.portDdr := rfl
@[simp] theorem State.setHreg_portData (s : State) (n : BitVec 6) (v : Byte) : (s.setHreg n v).portData = s.portData := rfl
@[simp] theorem State.setHreg_savedMapInhibit (s : State) (n : BitVec 6) (v : Byte) : (s.setHreg n v).savedMapInhibit = s.savedMapInhibit := rfl
@[simp] theorem State.setHreg_speedBias (s : State) (n : BitVec 6) (v : Byte) : (s.setHreg n v).speedBias = s.speedBias := rfl
@[simp] theorem State.setHreg_d030 (s : State) (n : BitVec 6) (v : Byte) : (s.setHreg n v).d030 = s.d030 := rfl
@[simp] theorem State.setHreg_ioMode (s : State) (n : BitVec 6) (v : Byte) : (s.setHreg n v).ioMode = s.ioMode := rfl
@[simp] theorem State.setHreg_irqLine (s : State) (n : BitVec 6) (v : Byte) : (s.setHreg n v).irqLine = s.irqLine := rfl
@[simp] theorem State.setHreg_nmiPending (s : State) (n : BitVec 6) (v : Byte) : (s.setHreg n v).nmiPending = s.nmiPending := rfl
@[simp] theorem State.setHreg_resetLine (s : State) (n : BitVec 6) (v : Byte) : (s.setHreg n v).resetLine = s.resetLine := rfl
@[simp] theorem State.setHreg_trapRequest (s : State) (n : BitVec 6) (v : Byte) : (s.setHreg n v).trapRequest = s.trapRequest := rfl
@[simp] theorem State.setHreg_syscall (s : State) (n : BitVec 6) (v : Byte) : (s.setHreg n v).syscall = s.syscall := rfl
@[simp] theorem State.setHreg_mem (s : State) (n : BitVec 6) (v : Byte) : (s.setHreg n v).mem = s.mem := rfl
@[simp] theorem State.setHreg_cfg (s : State) (n : BitVec 6) (v : Byte) : (s.setHreg n v).cfg = s.cfg := rfl
@[simp] theorem State.setHreg_inputs (s : State) (n : BitVec 6) (v : Byte) : (s.setHreg n v).inputs = s.inputs := rfl
@[simp] theorem State.setHreg_answers (s : State) (n : BitVec 6) (v : Byte) : (s.setHreg n v).answers = s.answers := rfl
@[simp] theorem State.setHreg_free (s : State) (n : BitVec 6) (v : Byte) : (s.setHreg n v).free = s.free := rfl
@[simp] theorem State.setHreg_trace (s : State) (n : BitVec 6) (v : Byte) : (s.setHreg n v).trace = s.trace := rfl
@[simp] theorem State.setHreg_atEntry (s : State) (n : BitVec 6) (v : Byte) : (s.setHreg n v).atEntry = s.atEntry := rfl
@[simp] theorem State.setHreg_hregAt (s : State) (n : BitVec 6) (v : Byte) : (s.setHreg n v).hregAt n = v := by
  simp [State.setHreg, State.hregAt]
theorem State.setHreg_hregAt_ne (s : State) {n k : BitVec 6} (v : Byte) (h : k ≠ n) :
    (s.setHreg n v).hregAt k = s.hregAt k := by
  have h' : n.toNat ≠ k.toNat := fun e => h (BitVec.eq_of_toNat_eq e.symm)
  simp [State.setHreg, State.hregAt, h']

/-! ### advance and goto -/

@[simp] theorem State.advance_a (s : State) (n : Nat) : (s.advance n).a = s.a := rfl
@[simp] theorem State.goto_a (s : State) (a : Word) : (s.goto a).a = s.a := rfl
@[simp] theorem State.advance_x (s : State) (n : Nat) : (s.advance n).x = s.x := rfl
@[simp] theorem State.goto_x (s : State) (a : Word) : (s.goto a).x = s.x := rfl
@[simp] theorem State.advance_y (s : State) (n : Nat) : (s.advance n).y = s.y := rfl
@[simp] theorem State.goto_y (s : State) (a : Word) : (s.goto a).y = s.y := rfl
@[simp] theorem State.advance_z (s : State) (n : Nat) : (s.advance n).z = s.z := rfl
@[simp] theorem State.goto_z (s : State) (a : Word) : (s.goto a).z = s.z := rfl
@[simp] theorem State.advance_b (s : State) (n : Nat) : (s.advance n).b = s.b := rfl
@[simp] theorem State.goto_b (s : State) (a : Word) : (s.goto a).b = s.b := rfl
@[simp] theorem State.advance_sph (s : State) (n : Nat) : (s.advance n).sph = s.sph := rfl
@[simp] theorem State.goto_sph (s : State) (a : Word) : (s.goto a).sph = s.sph := rfl
@[simp] theorem State.advance_spl (s : State) (n : Nat) : (s.advance n).spl = s.spl := rfl
@[simp] theorem State.goto_spl (s : State) (a : Word) : (s.goto a).spl = s.spl := rfl
@[simp] theorem State.advance_fl (s : State) (n : Nat) : (s.advance n).fl = s.fl := rfl
@[simp] theorem State.goto_fl (s : State) (a : Word) : (s.goto a).fl = s.fl := rfl
@[simp] theorem State.advance_map (s : State) (n : Nat) : (s.advance n).map = s.map := rfl
@[simp] theorem State.goto_map (s : State) (a : Word) : (s.goto a).map = s.map := rfl
@[simp] theorem State.advance_mapInhibit (s : State) (n : Nat) : (s.advance n).mapInhibit = s.mapInhibit := rfl
@[simp] theorem State.goto_mapInhibit (s : State) (a : Word) : (s.goto a).mapInhibit = s.mapInhibit := rfl
@[simp] theorem State.advance_hyper (s : State) (n : Nat) : (s.advance n).hyper = s.hyper := rfl
@[simp] theorem State.goto_hyper (s : State) (a : Word) : (s.goto a).hyper = s.hyper := rfl
@[simp] theorem State.advance_portDdr (s : State) (n : Nat) : (s.advance n).portDdr = s.portDdr := rfl
@[simp] theorem State.goto_portDdr (s : State) (a : Word) : (s.goto a).portDdr = s.portDdr := rfl
@[simp] theorem State.advance_portData (s : State) (n : Nat) : (s.advance n).portData = s.portData := rfl
@[simp] theorem State.goto_portData (s : State) (a : Word) : (s.goto a).portData = s.portData := rfl
@[simp] theorem State.advance_hreg (s : State) (n : Nat) : (s.advance n).hreg = s.hreg := rfl
@[simp] theorem State.goto_hreg (s : State) (a : Word) : (s.goto a).hreg = s.hreg := rfl
@[simp] theorem State.advance_savedMapInhibit (s : State) (n : Nat) : (s.advance n).savedMapInhibit = s.savedMapInhibit := rfl
@[simp] theorem State.goto_savedMapInhibit (s : State) (a : Word) : (s.goto a).savedMapInhibit = s.savedMapInhibit := rfl
@[simp] theorem State.advance_speedBias (s : State) (n : Nat) : (s.advance n).speedBias = s.speedBias := rfl
@[simp] theorem State.goto_speedBias (s : State) (a : Word) : (s.goto a).speedBias = s.speedBias := rfl
@[simp] theorem State.advance_d030 (s : State) (n : Nat) : (s.advance n).d030 = s.d030 := rfl
@[simp] theorem State.goto_d030 (s : State) (a : Word) : (s.goto a).d030 = s.d030 := rfl
@[simp] theorem State.advance_ioMode (s : State) (n : Nat) : (s.advance n).ioMode = s.ioMode := rfl
@[simp] theorem State.goto_ioMode (s : State) (a : Word) : (s.goto a).ioMode = s.ioMode := rfl
@[simp] theorem State.advance_irqLine (s : State) (n : Nat) : (s.advance n).irqLine = s.irqLine := rfl
@[simp] theorem State.goto_irqLine (s : State) (a : Word) : (s.goto a).irqLine = s.irqLine := rfl
@[simp] theorem State.advance_nmiPending (s : State) (n : Nat) : (s.advance n).nmiPending = s.nmiPending := rfl
@[simp] theorem State.goto_nmiPending (s : State) (a : Word) : (s.goto a).nmiPending = s.nmiPending := rfl
@[simp] theorem State.advance_resetLine (s : State) (n : Nat) : (s.advance n).resetLine = s.resetLine := rfl
@[simp] theorem State.goto_resetLine (s : State) (a : Word) : (s.goto a).resetLine = s.resetLine := rfl
@[simp] theorem State.advance_trapRequest (s : State) (n : Nat) : (s.advance n).trapRequest = s.trapRequest := rfl
@[simp] theorem State.goto_trapRequest (s : State) (a : Word) : (s.goto a).trapRequest = s.trapRequest := rfl
@[simp] theorem State.advance_syscall (s : State) (n : Nat) : (s.advance n).syscall = s.syscall := rfl
@[simp] theorem State.goto_syscall (s : State) (a : Word) : (s.goto a).syscall = s.syscall := rfl
@[simp] theorem State.advance_mem (s : State) (n : Nat) : (s.advance n).mem = s.mem := rfl
@[simp] theorem State.goto_mem (s : State) (a : Word) : (s.goto a).mem = s.mem := rfl
@[simp] theorem State.advance_cfg (s : State) (n : Nat) : (s.advance n).cfg = s.cfg := rfl
@[simp] theorem State.goto_cfg (s : State) (a : Word) : (s.goto a).cfg = s.cfg := rfl
@[simp] theorem State.advance_inputs (s : State) (n : Nat) : (s.advance n).inputs = s.inputs := rfl
@[simp] theorem State.goto_inputs (s : State) (a : Word) : (s.goto a).inputs = s.inputs := rfl
@[simp] theorem State.advance_answers (s : State) (n : Nat) : (s.advance n).answers = s.answers := rfl
@[simp] theorem State.goto_answers (s : State) (a : Word) : (s.goto a).answers = s.answers := rfl
@[simp] theorem State.advance_free (s : State) (n : Nat) : (s.advance n).free = s.free := rfl
@[simp] theorem State.goto_free (s : State) (a : Word) : (s.goto a).free = s.free := rfl
@[simp] theorem State.advance_trace (s : State) (n : Nat) : (s.advance n).trace = s.trace := rfl
@[simp] theorem State.goto_trace (s : State) (a : Word) : (s.goto a).trace = s.trace := rfl
@[simp] theorem State.advance_atEntry (s : State) (n : Nat) : (s.advance n).atEntry = s.atEntry := rfl
@[simp] theorem State.goto_atEntry (s : State) (a : Word) : (s.goto a).atEntry = s.atEntry := rfl
@[simp] theorem State.advance_pc (s : State) (n : Nat) : (s.advance n).pc = s.pc + BitVec.ofNat 16 n := rfl
@[simp] theorem State.goto_pc (s : State) (a : Word) : (s.goto a).pc = a := rfl

/-! ### saveRegs and trapEnter -/

@[simp] theorem State.saveRegs_a (s : State) : s.saveRegs.a = s.a := by simp only [State.saveRegs]
@[simp] theorem State.saveRegs_x (s : State) : s.saveRegs.x = s.x := by simp only [State.saveRegs]
@[simp] theorem State.saveRegs_y (s : State) : s.saveRegs.y = s.y := by simp only [State.saveRegs]
@[simp] theorem State.saveRegs_z (s : State) : s.saveRegs.z = s.z := by simp only [State.saveRegs]
@[simp] theorem State.saveRegs_b (s : State) : s.saveRegs.b = s.b := by simp only [State.saveRegs]
@[simp] theorem State.saveRegs_sph (s : State) : s.saveRegs.sph = s.sph := by simp only [State.saveRegs]
@[simp] theorem State.saveRegs_spl (s : State) : s.saveRegs.spl = s.spl := by simp only [State.saveRegs]
@[simp] theorem State.saveRegs_pc (s : State) : s.saveRegs.pc = s.pc := by simp only [State.saveRegs]
@[simp] theorem State.saveRegs_fl (s : State) : s.saveRegs.fl = s.fl := by simp only [State.saveRegs]
@[simp] theorem State.saveRegs_map (s : State) : s.saveRegs.map = s.map := by simp only [State.saveRegs]
@[simp] theorem State.saveRegs_mapInhibit (s : State) : s.saveRegs.mapInhibit = s.mapInhibit := by simp only [State.saveRegs]
@[simp] theorem State.saveRegs_hyper (s : State) : s.saveRegs.hyper = s.hyper := by simp only [State.saveRegs]
@[simp] theorem State.saveRegs_portDdr (s : State) : s.saveRegs.portDdr = s.portDdr := by simp only [State.saveRegs]
@[simp] theorem State.saveRegs_portData (s : State) : s.saveRegs.portData = s.portData := by simp only [State.saveRegs]
@[simp] theorem State.saveRegs_speedBias (s : State) : s.saveRegs.speedBias = s.speedBias := by simp only [State.saveRegs]
@[simp] theorem State.saveRegs_d030 (s : State) : s.saveRegs.d030 = s.d030 := by simp only [State.saveRegs]
@[simp] theorem State.saveRegs_ioMode (s : State) : s.saveRegs.ioMode = s.ioMode := by simp only [State.saveRegs]
@[simp] theorem State.saveRegs_irqLine (s : State) : s.saveRegs.irqLine = s.irqLine := by simp only [State.saveRegs]
@[simp] theorem State.saveRegs_nmiPending (s : State) : s.saveRegs.nmiPending = s.nmiPending := by simp only [State.saveRegs]
@[simp] theorem State.saveRegs_resetLine (s : State) : s.saveRegs.resetLine = s.resetLine := by simp only [State.saveRegs]
@[simp] theorem State.saveRegs_trapRequest (s : State) : s.saveRegs.trapRequest = s.trapRequest := by simp only [State.saveRegs]
@[simp] theorem State.saveRegs_syscall (s : State) : s.saveRegs.syscall = s.syscall := by simp only [State.saveRegs]
@[simp] theorem State.saveRegs_mem (s : State) : s.saveRegs.mem = s.mem := by simp only [State.saveRegs]
@[simp] theorem State.saveRegs_cfg (s : State) : s.saveRegs.cfg = s.cfg := by simp only [State.saveRegs]
@[simp] theorem State.saveRegs_inputs (s : State) : s.saveRegs.inputs = s.inputs := by simp only [State.saveRegs]
@[simp] theorem State.saveRegs_answers (s : State) : s.saveRegs.answers = s.answers := by simp only [State.saveRegs]
@[simp] theorem State.saveRegs_free (s : State) : s.saveRegs.free = s.free := by simp only [State.saveRegs]
@[simp] theorem State.saveRegs_trace (s : State) : s.saveRegs.trace = s.trace := by simp only [State.saveRegs]
@[simp] theorem State.saveRegs_atEntry (s : State) : s.saveRegs.atEntry = s.atEntry := by simp only [State.saveRegs]
@[simp] theorem State.saveRegs_hreg (s : State) : s.saveRegs.hreg = s.savedHreg savedItems := by simp only [State.saveRegs]
@[simp] theorem State.saveRegs_savedMapInhibit (s : State) : s.saveRegs.savedMapInhibit = s.mapInhibit := by simp only [State.saveRegs]
@[simp] theorem State.trapEnter_a (t : BitVec 7) (s : State) : (s.trapEnter t).a = s.saveRegs.a := by simp only [State.trapEnter, State.enterHyper]
@[simp] theorem State.trapEnter_x (t : BitVec 7) (s : State) : (s.trapEnter t).x = s.saveRegs.x := by simp only [State.trapEnter, State.enterHyper]
@[simp] theorem State.trapEnter_y (t : BitVec 7) (s : State) : (s.trapEnter t).y = s.saveRegs.y := by simp only [State.trapEnter, State.enterHyper]
@[simp] theorem State.trapEnter_z (t : BitVec 7) (s : State) : (s.trapEnter t).z = s.saveRegs.z := by simp only [State.trapEnter, State.enterHyper]
@[simp] theorem State.trapEnter_savedMapInhibit (t : BitVec 7) (s : State) : (s.trapEnter t).savedMapInhibit = s.saveRegs.savedMapInhibit := by simp only [State.trapEnter, State.enterHyper]
@[simp] theorem State.trapEnter_speedBias (t : BitVec 7) (s : State) : (s.trapEnter t).speedBias = s.saveRegs.speedBias := by simp only [State.trapEnter, State.enterHyper]
@[simp] theorem State.trapEnter_d030 (t : BitVec 7) (s : State) : (s.trapEnter t).d030 = s.saveRegs.d030 := by simp only [State.trapEnter, State.enterHyper]
@[simp] theorem State.trapEnter_irqLine (t : BitVec 7) (s : State) : (s.trapEnter t).irqLine = s.saveRegs.irqLine := by simp only [State.trapEnter, State.enterHyper]
@[simp] theorem State.trapEnter_nmiPending (t : BitVec 7) (s : State) : (s.trapEnter t).nmiPending = s.saveRegs.nmiPending := by simp only [State.trapEnter, State.enterHyper]
@[simp] theorem State.trapEnter_resetLine (t : BitVec 7) (s : State) : (s.trapEnter t).resetLine = s.saveRegs.resetLine := by simp only [State.trapEnter, State.enterHyper]
@[simp] theorem State.trapEnter_trapRequest (t : BitVec 7) (s : State) : (s.trapEnter t).trapRequest = s.saveRegs.trapRequest := by simp only [State.trapEnter, State.enterHyper]
@[simp] theorem State.trapEnter_syscall (t : BitVec 7) (s : State) : (s.trapEnter t).syscall = s.saveRegs.syscall := by simp only [State.trapEnter, State.enterHyper]
@[simp] theorem State.trapEnter_mem (t : BitVec 7) (s : State) : (s.trapEnter t).mem = s.saveRegs.mem := by simp only [State.trapEnter, State.enterHyper]
@[simp] theorem State.trapEnter_cfg (t : BitVec 7) (s : State) : (s.trapEnter t).cfg = s.saveRegs.cfg := by simp only [State.trapEnter, State.enterHyper]
@[simp] theorem State.trapEnter_inputs (t : BitVec 7) (s : State) : (s.trapEnter t).inputs = s.saveRegs.inputs := by simp only [State.trapEnter, State.enterHyper]
@[simp] theorem State.trapEnter_answers (t : BitVec 7) (s : State) : (s.trapEnter t).answers = s.saveRegs.answers := by simp only [State.trapEnter, State.enterHyper]
@[simp] theorem State.trapEnter_trace (t : BitVec 7) (s : State) : (s.trapEnter t).trace = s.saveRegs.trace := by simp only [State.trapEnter, State.enterHyper]
@[simp] theorem State.trapEnter_hreg (t : BitVec 7) (s : State) : (s.trapEnter t).hreg = s.saveRegs.hreg := by simp only [State.trapEnter, State.enterHyper]

/-- A slot that no item of the list has keeps its byte. -/
theorem State.savedHreg_other (s : State) (k : BitVec 6) (items : List SavedItem)
    (h : k ∉ items.map (SavedItem.slot s.cfg.hregLayout)) :
    (s.savedHreg items)[k.toNat]'k.isLt = s.hreg[k.toNat]'k.isLt := by
  have gen : ∀ (items : List SavedItem) (v : Vector Byte 64), k ∉ items.map (SavedItem.slot s.cfg.hregLayout) →
      (items.foldl (fun h it => h.set (it.slot s.cfg.hregLayout).toNat (it.value s) (it.slot s.cfg.hregLayout).isLt)
        v)[k.toNat]'k.isLt = v[k.toNat]'k.isLt := by
    intro items
    induction items with
    | nil => exact fun _ _ => rfl
    | cons it items ih =>
      intro v hk
      simp only [List.map_cons, List.mem_cons, not_or] at hk
      rw [List.foldl_cons, ih _ hk.2, Vector.getElem_set_ne]
      exact fun e => hk.1 (BitVec.eq_of_toNat_eq e.symm)
  exact gen items s.hreg h

end Sys2Proof.Machine
end

