-- ==== Sys2Proof/Laws/Access.lean ====
section
/-! SUPPORT. What plain accesses do, once for each shared operation: a plain read gives its byte and changes nothing, a
write that replaces a byte of memory changes nothing else. -/

namespace Sys2Proof.Machine

@[simp] theorem Ctx.upd_st (f : State → State) (c : Ctx) : (c.upd f).st = f c.st := rfl
@[simp] theorem Ctx.upd_leave (f : State → State) (c : Ctx) : (c.upd f).leave = c.leave := rfl
@[simp] theorem Ctx.of_st (s : State) : (Ctx.of s).st = s := rfl
@[simp] theorem Ctx.of_leave (s : State) : (Ctx.of s).leave = false := rfl
theorem Ctx.start_eq (n : Nat) (s : State) : Ctx.start n s = Ctx.of (s.advance n) := rfl
@[simp] theorem Ctx.upd_of (f : State → State) (s : State) : (Ctx.of s).upd f = Ctx.of (f s) := rfl
@[simp] theorem Ctx.done_of (s : State) : (Ctx.of s).done = .next s := rfl

/-! ### Plain reads -/

theorem Ctx.readCell_of_readCell {c : Ctx} {p : Phys} {v : Byte} (h : c.st.readCell p = some v) :
    c.readCell p = (v, c) := by simp [Ctx.readCell, h]

theorem Ctx.physRead_of_peekPhys {c : Ctx} {p : Phys} {v : Byte} (h : c.st.peekPhys p = some v) :
    c.physRead .read p = (v, c) := by
  unfold State.peekPhys at h
  unfold Ctx.physRead
  split at h
  · rename_i off hk
    simp only [hk, Ctx.ioRead]
    split at h
    · rename_i n hr
      simp only [Bool.and_eq_true, Option.ite_none_right_eq_some, Option.some.injEq] at h
      simp [hr, Ctx.virtRead, h.1.1, h.1.2, h.2]
    · rename_i hr; simp only [Option.some.injEq] at h; simp [hr, h]
    · rename_i k hr; simp [hr, Ctx.colourRead, Ctx.readCell_of_readCell h]
    · cases h
    · cases h
  all_goals rename_i hk; simp [hk, Ctx.readCell_of_readCell h]

/-- A plain read gives its byte and changes nothing. -/
theorem Ctx.read8_of_peek {c : Ctx} {pl : Place} {v : Byte} (h : c.st.peek pl = some v) : c.read8 pl = (v, c) := by
  unfold State.peek at h
  unfold Ctx.read8 Ctx.readTarget
  split at h
  · rename_i ht; simp [ht, Ctx.physRead_of_peekPhys h]
  · rename_i ht; simp only [Option.some.injEq] at h; simp [ht, h]
  · rename_i ht; simp only [Option.some.injEq] at h; simp [ht, h]
  · rename_i ht; simp [ht, Ctx.colourRead, Ctx.readCell_of_readCell h]

theorem Ctx.read16_of_peek16 {c : Ctx} {pl : Place} {v : Word} (h : c.st.peek16 pl = some v) :
    c.read16 pl = (v, c) := by
  unfold State.peek16 at h
  split at h
  · rename_i h0 h1
    simp only [Option.some.injEq] at h
    simp [Ctx.read16, Ctx.read8_of_peek h0, Ctx.read8_of_peek h1, h]
  · cases h

theorem Ctx.read32_of_peek32 {c : Ctx} {pl : Place} {v : Quad} (h : c.st.peek32 pl = some v) :
    c.read32 pl = (v, c) := by
  unfold State.peek32 at h
  split at h
  · rename_i h0 h1 h2 h3
    simp only [Option.some.injEq] at h
    simp [Ctx.read32, Ctx.read8_of_peek h0, Ctx.read8_of_peek h1, Ctx.read8_of_peek h2, Ctx.read8_of_peek h3, h]
  · cases h

theorem Ctx.pointer16_of_ptr16 {c : Ctx} {nn : Byte} {v : Word} (h : c.st.ptr16 nn = some v) :
    c.pointer16 nn = (v, c) := by
  unfold State.ptr16 at h
  split at h
  · rename_i h0 h1
    simp only [Option.some.injEq] at h
    simp [Ctx.pointer16, Ctx.read8_of_peek h0, Ctx.read8_of_peek h1, h]
  · cases h

theorem Ctx.pointer32_of_ptr32 {c : Ctx} {nn : Byte} {v : Quad} (h : c.st.ptr32 nn = some v) :
    c.pointer32 nn = (v, c) := by
  unfold State.ptr32 at h
  split at h
  · rename_i h0 h1 h2 h3
    simp only [Option.some.injEq] at h
    simp [Ctx.pointer32, Ctx.read8_of_peek h0, Ctx.read8_of_peek h1, Ctx.read8_of_peek h2, Ctx.read8_of_peek h3, h]
  · cases h

/-- A mode whose pointer is plain gives its address and changes nothing. -/
theorem Ctx.ea_of_place {c : Ctx} {m : MemMode} {pl : Place} (h : c.st.place m = some pl) : c.ea m = (pl, c) := by
  cases m <;> simp only [State.place, Option.map_eq_some_iff, Option.some.injEq] at h
  case bpXInd | bpIndY | bpIndZ | bpInd =>
    obtain ⟨p, hp, rfl⟩ := h
    simp [Ctx.ea, Ctx.pointer16_of_ptr16 hp]
  case farZ | far =>
    obtain ⟨p, hp, rfl⟩ := h
    simp [Ctx.ea, Ctx.pointer32_of_ptr32 hp]
  case spIndY =>
    obtain ⟨p, hp, rfl⟩ := h
    simp [Ctx.ea, Ctx.read16_of_peek16 hp]
  all_goals simp [Ctx.ea, h]

/-- A plain operand gives its value and changes nothing. -/
theorem Ctx.operand_of_value {c : Ctx} {src : Source} {v : Byte} (h : c.st.value src = some v) :
    c.operand src = (v, c) := by
  cases src with
  | imm w => simp only [State.value, Option.some.injEq] at h; simp [Ctx.operand, h]
  | mem m =>
    simp only [State.value, Option.bind_eq_some_iff] at h
    obtain ⟨pl, hp, hv⟩ := h
    simp [Ctx.operand, Ctx.ea_of_place hp, Ctx.read8_of_peek hv]

theorem Ctx.jumpTarget_of_destination {c : Ctx} {t : JumpTarget} {a : Word} (h : c.st.destination t = some a) :
    c.jumpTarget t = (a, c) := by
  cases t with
  | abs b => simp only [State.destination, Option.some.injEq] at h; simp [Ctx.jumpTarget, h]
  | ind b => simp [Ctx.jumpTarget, Ctx.read16_of_peek16 h]
  | indX b => simp [Ctx.jumpTarget, Ctx.read16_of_peek16 h]

/-! ### Writes that replace a byte of memory -/

/-- A read of a device takes the platform's next answer and records it (R73, R81). -/
theorem Ctx.read8_of_isDevice {c : Ctx} {pl : Place} {p : Phys} {v : Byte} {rest : List Byte}
    (h : c.st.target .read pl = .phys p) (hd : c.st.isDevice p = true) (ha : c.st.answers = v :: rest) :
    c.read8 pl = (v, { c with st := { c.st with answers := rest, trace := .read p v :: c.st.trace } }) := by
  simp only [Ctx.read8, h, Ctx.readTarget, Ctx.physRead]
  simp only [State.isDevice] at hd
  split at hd <;> rename_i hk <;> simp [hk] at hd ⊢
  · simp [Ctx.readCell, State.readCell, hk, Ctx.answer, ha, Ctx.upd]
  · simp [Ctx.ioRead, hd, Ctx.answer, ha, Ctx.upd]

/-- A write to a device is recorded and changes nothing else (R73, R81). -/
theorem Ctx.write8_of_isDevice {c : Ctx} {pl : Place} {p : Phys} (h : c.st.target .write pl = .phys p)
    (hd : c.st.isDevice p = true) (v : Byte) :
    c.write8 pl v = { c with st := { c.st with trace := .write p v :: c.st.trace } } := by
  simp only [Ctx.write8, h, Ctx.writeTarget, Ctx.physWrite]
  simp only [State.isDevice] at hd
  split at hd <;> rename_i hk <;> simp [hk] at hd ⊢
  · simp [Ctx.writeCell, State.writeCell, hk, Ctx.act, Ctx.upd]
  · simp [Ctx.ioWrite, hd, Ctx.act, Ctx.upd]

/-- A write to RAM replaces its byte and changes nothing else. -/
theorem Ctx.write8_of_ramAt {c : Ctx} {pl : Place} {p : Phys} (h : c.st.ramAt pl = some p) (v : Byte) :
    c.write8 pl v = { c with st := c.st.setCell p v } := by
  unfold State.ramAt at h
  unfold Ctx.write8 Ctx.writeTarget
  split at h
  · rename_i q ht
    simp only [ht, Ctx.physWrite]
    split at h
    · rename_i hk
      simp only [Option.some.injEq] at h
      subst h
      simp [hk, Ctx.writeCell, State.writeCell]
    · rename_i hk
      simp only [Option.ite_none_right_eq_some, Option.some.injEq] at h
      obtain ⟨hh, rfl⟩ := h
      simp [hk, Ctx.writeCell, State.writeCell, hh]
    all_goals cases h
  all_goals cases h

/-! ### What does not change where accesses go -/

@[simp] theorem State.setCell_kindOf (s : State) (p q : Phys) (v : Byte) : (s.setCell p v).kindOf q = s.kindOf q := rfl
@[simp] theorem State.setCell_target (s : State) (p : Phys) (v : Byte) (acc : Access) (pl : Place) :
    (s.setCell p v).target acc pl = s.target acc pl := rfl
@[simp] theorem State.setCell_ramAt (s : State) (p : Phys) (v : Byte) (pl : Place) :
    (s.setCell p v).ramAt pl = s.ramAt pl := rfl
@[simp] theorem State.advance_ramAt (s : State) (n : Nat) (pl : Place) : (s.advance n).ramAt pl = s.ramAt pl := rfl
@[simp] theorem State.advance_peek (s : State) (n : Nat) (pl : Place) : (s.advance n).peek pl = s.peek pl := rfl
@[simp] theorem State.advance_place (s : State) (n : Nat) (m : MemMode) : (s.advance n).place m = s.place m := rfl
@[simp] theorem State.advance_value (s : State) (n : Nat) (src : Source) : (s.advance n).value src = s.value src := rfl
@[simp] theorem State.advance_destination (s : State) (n : Nat) (t : JumpTarget) :
    (s.advance n).destination t = s.destination t := rfl
@[simp] theorem State.moveSp_kindOf (s : State) (d : Word) (q : Phys) : (s.moveSp d).kindOf q = s.kindOf q := by
  unfold State.moveSp; split <;> rfl
@[simp] theorem State.moveSp_target (s : State) (d : Word) (acc : Access) (pl : Place) :
    (s.moveSp d).target acc pl = s.target acc pl := by
  unfold State.moveSp; split <;> rfl
@[simp] theorem State.moveSp_ramAt (s : State) (d : Word) (pl : Place) : (s.moveSp d).ramAt pl = s.ramAt pl := by
  unfold State.moveSp; split <;> rfl
@[simp] theorem State.moveSp_peek (s : State) (d : Word) (pl : Place) : (s.moveSp d).peek pl = s.peek pl := by
  unfold State.moveSp; split <;> rfl

/-- Two bytes of RAM written. -/
theorem Ctx.write16_of_ramAt {c : Ctx} {pl : Place} {p0 p1 : Phys} (h0 : c.st.ramAt pl = some p0)
    (h1 : c.st.ramAt (pl.plus 1) = some p1) (v : Word) :
    c.write16 pl v =
      { c with st := c.st.storeAll [(p0, v.extractLsb' 0 8), (p1, v.extractLsb' 8 8)] } := by
  unfold Ctx.write16
  rw [Ctx.write8_of_ramAt h0, Ctx.write8_of_ramAt (pl := pl.plus 1) (p := p1) (by rw [State.setCell_ramAt]; exact h1)]
  rfl

/-- Four bytes of RAM written. -/
theorem Ctx.write32_of_ramAt {c : Ctx} {pl : Place} {p0 p1 p2 p3 : Phys} (h0 : c.st.ramAt pl = some p0)
    (h1 : c.st.ramAt (pl.plus 1) = some p1) (h2 : c.st.ramAt (pl.plus 2) = some p2)
    (h3 : c.st.ramAt (pl.plus 3) = some p3) (v : Quad) :
    c.write32 pl v =
      { c with st := c.st.storeAll [(p0, v.extractLsb' 0 8), (p1, v.extractLsb' 8 8), (p2, v.extractLsb' 16 8),
                                    (p3, v.extractLsb' 24 8)] } := by
  unfold Ctx.write32
  rw [Ctx.write8_of_ramAt h0, Ctx.write8_of_ramAt (pl := pl.plus 1) (p := p1) (by rw [State.setCell_ramAt]; exact h1),
    Ctx.write8_of_ramAt (pl := pl.plus 2) (p := p2) (by simp only [State.setCell_ramAt]; exact h2),
    Ctx.write8_of_ramAt (pl := pl.plus 3) (p := p3) (by simp only [State.setCell_ramAt]; exact h3)]
  rfl

/-! ### The stack -/

@[simp] theorem State.moveSp_sp (s : State) (d : Word) : (s.moveSp d).sp = s.spPlus d := by
  unfold State.moveSp State.spPlus State.sp
  split
  · rfl
  · rw [BitVec.extractLsb'_append_extractLsb'_eq_extractLsb' (by rfl)]
    simp

theorem State.moveSp_eq (s : State) (d : Word) : s.moveSp d = s.withSp (s.spPlus d) := by
  unfold State.moveSp State.withSp State.spPlus State.sp
  cases s.fl.e
  · rfl
  · simp only [if_true]
    rw [BitVec.extractLsb'_append_eq_left, BitVec.extractLsb'_append_eq_right]

/-- A push to RAM writes its byte and moves SP. -/
theorem Ctx.push8_of_ramAt {c : Ctx} {p : Phys} (h : c.st.ramAt (.cpu c.st.sp) = some p) (v : Byte) :
    c.push8 v = { c with st := (c.st.setCell p v).moveSp 0xFFFF#16 } := by
  simp [Ctx.push8, Ctx.write8_of_ramAt h, Ctx.upd]

/-- A plain pull moves SP and gives its byte. -/
theorem Ctx.pull8_of_peek {c : Ctx} {v : Byte} (h : c.st.peek (.cpu (c.st.spPlus 0x0001#16)) = some v) :
    c.pull8 = (v, { c with st := c.st.moveSp 0x0001#16 }) := by
  unfold Ctx.pull8
  have h' : (c.upd fun s => s.moveSp 0x0001#16).st.peek (.cpu (c.upd fun s => s.moveSp 0x0001#16).st.sp) = some v := by
    simpa using h
  simp only [Ctx.read8_of_peek h']
  rfl

end Sys2Proof.Machine
end

