-- ==== Sys2Proof/Laws/Forms.lean ====
section
/-! SUPPORT. `exec` runs the form of the instruction. -/

namespace Sys2Proof.Machine

open Sys2Proof

theorem exec_form (i : Instr) (s : State) : exec i s = (formOf i).run s := by
  cases i <;> rfl

end Sys2Proof.Machine
end

