-- ==== Sys2Proof/Laws/Frame.lean ====
section
/-! SUPPORT. What any access can change, once for reads and once for writes; and what every instruction is made of, so
that a property of accesses becomes a property of `exec`. -/

namespace Sys2Proof.Machine

/-! ### Reads -/

/-- All that a read can change: the platform's answers and trace, the free-value counter, a SYSCALL raised. -/
def ReadFrame (c c' : Ctx) : Prop :=
  ∃ an fr tr sy, c' = { c with st := { c.st with answers := an, free := fr, trace := tr, syscall := sy } }

theorem ReadFrame.refl (c : Ctx) : ReadFrame c c := ⟨_, _, _, _, rfl⟩

theorem ReadFrame.trans {c c' c'' : Ctx} (h : ReadFrame c c') (h' : ReadFrame c' c'') : ReadFrame c c'' := by
  obtain ⟨_, _, _, _, rfl⟩ := h
  obtain ⟨_, _, _, _, rfl⟩ := h'
  exact ⟨_, _, _, _, rfl⟩

theorem Ctx.answer_frame (p : Phys) (c : Ctx) : ReadFrame c (c.answer p).2 := by
  unfold Ctx.answer
  split <;> exact ⟨_, _, _, _, rfl⟩

theorem Ctx.touch_frame (n : BitVec 6) (c : Ctx) : ReadFrame c (c.touch n) := ⟨_, _, _, _, rfl⟩

theorem Ctx.readCell_frame (p : Phys) (c : Ctx) : ReadFrame c (c.readCell p).2 := by
  unfold Ctx.readCell
  split
  · exact .refl c
  · exact c.answer_frame p

theorem Ctx.virtRead_frame (acc : Access) (n : BitVec 6) (p : Phys) (c : Ctx) : ReadFrame c (c.virtRead acc n p).2 := by
  unfold Ctx.virtRead
  split
  · exact c.answer_frame p
  · split
    · split
      · exact .refl c
      · exact c.answer_frame p
    · dsimp only
      split
      · exact (c.answer_frame p).trans (Ctx.touch_frame ..)
      · exact c.answer_frame p

/-- A read changes nothing but the platform's answers and trace, the free-value counter and a SYSCALL raised. -/
theorem Ctx.readTarget_frame (acc : Access) (t : Target) (c : Ctx) : ReadFrame c (c.readTarget acc t).2 := by
  cases t with
  | phys p =>
    show ReadFrame c (c.physRead acc p).2
    unfold Ctx.physRead
    split
    · unfold Ctx.ioRead
      split
      · exact Ctx.virtRead_frame ..
      · exact .refl c
      · exact Ctx.readCell_frame ..
      · exact Ctx.answer_frame ..
      · exact Ctx.answer_frame ..
    · exact Ctx.readCell_frame ..
  | portDdr => exact .refl c
  | portData => exact .refl c
  | colour k => exact Ctx.readCell_frame ..

/-! ### Writes -/

/-- All that a write can change: memory, the registers inside the CPU, the platform's trace, a SYSCALL raised, and
whether the instruction ends in a trap return, which only hypervisor mode can. -/
def WriteFrame (c c' : Ctx) : Prop :=
  ∃ me dd da hr sb d0 tr sy lv,
    c' = { st := { c.st with mem := me, portDdr := dd, portData := da, hreg := hr, speedBias := sb, d030 := d0,
                             trace := tr, syscall := sy },
           leave := lv } ∧
    (lv = true → c.leave = true ∨ c.st.hyper = true)

theorem WriteFrame.refl (c : Ctx) : WriteFrame c c := ⟨_, _, _, _, _, _, _, _, _, rfl, .inl⟩

theorem WriteFrame.trans {c c' c'' : Ctx} (h : WriteFrame c c') (h' : WriteFrame c' c'') : WriteFrame c c'' := by
  obtain ⟨_, _, _, _, _, _, _, _, _, rfl, hl⟩ := h
  obtain ⟨_, _, _, _, _, _, _, _, _, rfl, hl'⟩ := h'
  exact ⟨_, _, _, _, _, _, _, _, _, rfl, fun e => (hl' e).elim hl .inr⟩

theorem Ctx.writeCell_frame (p : Phys) (v : Byte) (c : Ctx) : WriteFrame c (c.writeCell p v) := by
  unfold Ctx.writeCell State.writeCell
  split
  · rename_i s h
    split at h
    · simp only [Option.some.injEq] at h; subst h; exact ⟨_, _, _, _, _, _, _, _, _, rfl, .inl⟩
    · simp only [Option.some.injEq] at h
      subst h
      split <;> exact ⟨_, _, _, _, _, _, _, _, _, rfl, .inl⟩
    · simp only [Option.some.injEq] at h
      subst h
      split <;> exact ⟨_, _, _, _, _, _, _, _, _, rfl, .inl⟩
    · cases h
    · cases h
  · exact ⟨_, _, _, _, _, _, _, _, _, rfl, .inl⟩

theorem Ctx.virtWrite_frame (n : BitVec 6) (p : Phys) (v : Byte) (c : Ctx) : WriteFrame c (c.virtWrite n p v) := by
  unfold Ctx.virtWrite
  split
  · rename_i hh
    dsimp only
    split
    · exact ⟨_, _, _, _, _, _, _, _, _, rfl, fun _ => .inr hh⟩
    · split <;> exact ⟨_, _, _, _, _, _, _, _, _, rfl, .inl⟩
  · exact ⟨_, _, _, _, _, _, _, _, _, rfl, .inl⟩

/-- A write changes only what `WriteFrame` lists. -/
theorem Ctx.writeTarget_frame (t : Target) (v : Byte) (c : Ctx) : WriteFrame c (c.writeTarget t v) := by
  cases t with
  | phys p =>
    show WriteFrame c (c.physWrite p v)
    unfold Ctx.physWrite
    split
    · unfold Ctx.ioWrite
      split
      · exact Ctx.virtWrite_frame ..
      · exact ⟨_, _, _, _, _, _, _, _, _, rfl, .inl⟩
      · exact (Ctx.writeCell_frame ..).trans (Ctx.writeCell_frame ..)
      · exact ⟨_, _, _, _, _, _, _, _, _, rfl, .inl⟩
      · exact ⟨_, _, _, _, _, _, _, _, _, rfl, .inl⟩
    · exact Ctx.writeCell_frame ..
  | portDdr => exact ⟨_, _, _, _, _, _, _, _, _, rfl, .inl⟩
  | portData => exact ⟨_, _, _, _, _, _, _, _, _, rfl, .inl⟩
  | colour k => exact (Ctx.writeCell_frame ..).trans (Ctx.writeCell_frame ..)

/-! ### Memory under a write -/

theorem Ctx.writeCell_wf {c : Ctx} (h : Memory.wf c.st.mem) (p : Phys) (v : Byte) :
    Memory.wf (c.writeCell p v).st.mem := by
  unfold Ctx.writeCell State.writeCell
  split
  · rename_i s hs
    split at hs <;> simp only [Option.some.injEq, reduceCtorEq] at hs <;> subst hs
    · exact Memory.write_wf h _ _
    · split
      · exact Memory.write_wf h _ _
      · exact h
    · split
      · exact Memory.write_wf h _ _
      · exact h
  · exact h

theorem Ctx.writeCell_inSpace {c : Ctx} (h : ∀ d ∈ c.st.mem, d.1 < 2 ^ 28) (p : Phys) (v : Byte) :
    ∀ d ∈ (c.writeCell p v).st.mem, d.1 < 2 ^ 28 := by
  unfold Ctx.writeCell State.writeCell
  split
  · rename_i s hs
    split at hs <;> simp only [Option.some.injEq, reduceCtorEq] at hs <;> subst hs
    · exact Memory.write_inSpace h p.isLt _
    · split
      · exact Memory.write_inSpace h p.isLt _
      · exact h
    · split
      · exact Memory.write_inSpace h p.isLt _
      · exact h
  · exact h

/-- The memory after a write is the memory before it, or that with one or two bytes written by `writeCell`. -/
theorem Ctx.writeTarget_mem {P : List Host.Cell → Prop}
    (hp : ∀ (c : Ctx) (p : Phys) (v : Byte), P c.st.mem → P (c.writeCell p v).st.mem)
    (t : Target) (v : Byte) {c : Ctx} (h : P c.st.mem) : P (c.writeTarget t v).st.mem := by
  cases t with
  | phys p =>
    show P (c.physWrite p v).st.mem
    unfold Ctx.physWrite
    split
    · unfold Ctx.ioWrite
      split
      · unfold Ctx.virtWrite
        split
        · dsimp only; split
          · exact h
          · split <;> exact h
        · exact h
      · exact h
      · exact hp _ _ _ (hp _ _ _ h)
      · exact h
      · exact h
    · exact hp _ _ _ h
  | portDdr => exact h
  | portData => exact h
  | colour k => exact hp _ _ _ (hp _ _ _ h)

/-! ### What every instruction is made of -/

/-- An update inside the CPU: it changes no field but the registers, the flags, the mapping registers, `MapInhibit`
and the free-value counter. -/
def CpuOnly (s t : State) : Prop :=
  t = { s with a := t.a, x := t.x, y := t.y, z := t.z, b := t.b, sph := t.sph, spl := t.spl, pc := t.pc, fl := t.fl,
               map := t.map, mapInhibit := t.mapInhibit, free := t.free }

theorem CpuOnly.setReg (s : State) (r : Reg) (v : Byte) : CpuOnly s (s.setReg r v) := by cases r <;> rfl
theorem CpuOnly.setRegFlags (s : State) (r : Reg) (v : Byte) (fl : Flags) :
    CpuOnly s { s.setReg r v with fl := fl } := by cases r <;> rfl
theorem CpuOnly.setRegNZ (s : State) (r : Reg) (v : Byte) : CpuOnly s (s.setRegNZ r v) := by cases r <;> rfl
theorem CpuOnly.setQFlags (s : State) (v : Quad) (fl : Flags) : CpuOnly s (s.setQFlags v fl) := rfl
theorem CpuOnly.moveSp (s : State) (d : Word) : CpuOnly s (s.moveSp d) := by unfold State.moveSp; split <;> rfl
theorem CpuOnly.gotoMoveSp (s : State) (a d : Word) : CpuOnly s ((s.goto a).moveSp d) := by
  unfold State.moveSp; split <;> rfl
theorem CpuOnly.gotoIf (s : State) (b : Bool) (a : Word) : CpuOnly s (if b then s.goto a else s) := by
  cases b <;> rfl
theorem CpuOnly.adc (s : State) (m : Byte) : CpuOnly s (s.adc m) := by
  unfold State.adc State.decimalResult State.binaryResult; split <;> [split <;> rfl; rfl]
theorem CpuOnly.sbc (s : State) (m : Byte) : CpuOnly s (s.sbc m) := by
  unfold State.sbc State.decimalResult State.binaryResult; split <;> [split <;> rfl; rfl]
theorem CpuOnly.run8 (op : AluOp) (s : State) (m : Byte) : CpuOnly s (op.run8 m s) := by
  cases op
  · exact CpuOnly.adc s m
  · exact CpuOnly.sbc s m
  all_goals exact CpuOnly.setRegNZ ..
theorem CpuOnly.run32 (op : AluOp) (s : State) (m : Quad) : CpuOnly s (op.run32 m s) := by cases op <;> rfl

/-- A relation that updates inside the CPU, reads and writes respect. -/
structure Closed (R : Ctx → Ctx → Prop) : Prop where
  refl : ∀ c, R c c
  trans : ∀ {c c' c''}, R c c' → R c' c'' → R c c''
  upd : ∀ (c : Ctx) (f : State → State), (∀ s, CpuOnly s (f s)) → R c (c.upd f)
  read : ∀ (acc : Access) (t : Target) (c : Ctx), R c (c.readTarget acc t).2
  write : ∀ (t : Target) (v : Byte) (c : Ctx), R c (c.writeTarget t v)

namespace Closed

variable {R : Ctx → Ctx → Prop} (h : Closed R)
include h

theorem read8 (pl : Place) (c : Ctx) : R c (c.read8 pl).2 := h.read ..
theorem write8 (pl : Place) (v : Byte) (c : Ctx) : R c (c.write8 pl v) := h.write ..
theorem read16 (pl : Place) (c : Ctx) : R c (c.read16 pl).2 := h.trans (h.read8 ..) (h.read8 ..)
theorem write16 (pl : Place) (v : Word) (c : Ctx) : R c (c.write16 pl v) := h.trans (h.write8 ..) (h.write8 ..)
theorem read32 (pl : Place) (c : Ctx) : R c (c.read32 pl).2 :=
  h.trans (h.trans (h.trans (h.read8 ..) (h.read8 ..)) (h.read8 ..)) (h.read8 ..)
theorem write32 (pl : Place) (v : Quad) (c : Ctx) : R c (c.write32 pl v) :=
  h.trans (h.trans (h.trans (h.write8 ..) (h.write8 ..)) (h.write8 ..)) (h.write8 ..)
theorem pointer16 (nn : Byte) (c : Ctx) : R c (c.pointer16 nn).2 := h.trans (h.read8 ..) (h.read8 ..)
theorem pointer32 (nn : Byte) (c : Ctx) : R c (c.pointer32 nn).2 :=
  h.trans (h.trans (h.trans (h.read8 ..) (h.read8 ..)) (h.read8 ..)) (h.read8 ..)
theorem push8 (v : Byte) (c : Ctx) : R c (c.push8 v) := h.trans (h.write8 ..) (h.upd _ _ fun s => .moveSp s _)
theorem pull8 (c : Ctx) : R c c.pull8.2 := h.trans (h.upd _ _ fun s => .moveSp s _) (h.read8 ..)
theorem push16 (w : Word) (c : Ctx) : R c (c.push16 w) := h.trans (h.push8 ..) (h.push8 ..)
theorem pull16 (c : Ctx) : R c c.pull16.2 := h.trans (h.pull8 ..) (h.pull8 ..)

theorem ea (m : MemMode) (c : Ctx) : R c (c.ea m).2 := by
  cases m
  case bpXInd | bpIndY | bpIndZ | bpInd => exact h.pointer16 ..
  case farZ | far => exact h.pointer32 ..
  case spIndY => exact h.read16 ..
  all_goals exact h.refl c

theorem operand (src : Source) (c : Ctx) : R c (c.operand src).2 := by
  cases src
  · exact h.refl c
  · exact h.trans (h.ea ..) (h.read8 ..)

theorem jumpTarget (t : JumpTarget) (c : Ctx) : R c (c.jumpTarget t).2 := by
  cases t
  · exact h.refl c
  all_goals exact h.read16 ..

theorem interrupt (vector ret : Word) (brk : Bool) (c : Ctx) : R c (c.interrupt vector ret brk) := by
  let c2 := (c.push16 ret).push8 ((c.push16 ret).st.fl.pack brk)
  let f : State → State := fun s =>
    { s with fl := { s.fl with i := true, d := if s.cfg.intClearsD then false else s.fl.d } }
  let r := (c2.upd f).read16 (.cpu vector)
  have h1 : R c c2 := h.trans (h.push16 ret c) (h.push8 _ _)
  have h2 : R c2 (c2.upd f) := h.upd c2 f fun _ => rfl
  have h3 : R (c2.upd f) r.2 := h.read16 ..
  have h4 : R r.2 (r.2.upd fun s => { s with pc := r.1 }) := h.upd _ _ fun _ => rfl
  exact h.trans (h.trans h1 h2) (h.trans h3 h4)

theorem start (len : Nat) (s : State) : R (Ctx.of s) (Ctx.start len s) :=
  h.upd (Ctx.of s) (fun s => s.advance len) fun _ => rfl

theorem changeFlagsWrite8 (pl : Place) (r : Byte) (fl : Flags) (c : Ctx) :
    R c ((c.upd fun s => { s with fl := fl }).write8 pl r) :=
  h.trans (h.upd c _ (by intro _; rfl)) (h.write8 ..)

theorem writeBack (always : Bool) (pl : Place) (v : Byte) (c : Ctx) : R c (c.writeBack always pl v) := by
  unfold Ctx.writeBack
  split
  · exact h.write8 ..
  · exact h.refl c

end Closed

/-- What an instruction that completes has done: a chain of updates inside the CPU, reads and writes, and the end of the
instruction. -/
def Reaches (R : Ctx → Ctx → Prop) (s : State) (r : Result) : Prop :=
  ∀ t, r = .next t → ∃ c, R (Ctx.of s) c ∧ t = c.finish

theorem Reaches.done {R : Ctx → Ctx → Prop} {s : State} {c : Ctx} (h : R (Ctx.of s) c) : Reaches R s c.done := by
  intro t ht
  simp only [Ctx.done, Host.Outcome.next.injEq] at ht
  exact ⟨c, h, ht.symm⟩

theorem Reaches.rmw8 {R : Ctx → Ctx → Prop} (h : Closed R) (always : Bool) (f : State → Byte → Byte × Flags)
    (m : MemMode) (len : Nat) (s : State) : Reaches R s (s.rmw8 always f m len) :=
  .done (h.trans (h.trans (h.trans (h.trans (h.start ..) (h.ea ..)) (h.read8 ..)) (h.writeBack ..))
    (h.changeFlagsWrite8 ..))

/-- Every form's instruction, if it completes, is such a chain. -/
theorem Form.run_reaches {R : Ctx → Ctx → Prop} (h : Closed R) (f : Form) (s : State) : Reaches R s (f.run s) := by
  have hs := fun len => h.start len s
  cases f with
  | load r src len => exact .done (h.trans (h.trans (hs len) (h.operand ..)) (h.upd _ _ fun s => .setRegNZ s _ _))
  | store r m len => exact .done (h.trans (h.trans (hs len) (h.ea ..)) (h.write8 ..))
  | transferNZ dst src len => exact .done (h.trans (hs len) (h.upd _ _ fun s => .setRegNZ s _ _))
  | transfer dst src len => exact .done (h.trans (hs len) (h.upd _ _ fun s => .setReg s _ _))
  | push r len => exact .done (h.trans (hs len) (h.push8 ..))
  | pushFlags len => exact .done (h.trans (hs len) (h.push8 ..))
  | pushWord w len => exact .done (h.trans (hs len) (h.push16 ..))
  | pushWordAt a len => exact .done (h.trans (h.trans (hs len) (h.read16 ..)) (h.push16 ..))
  | pull r len => exact .done (h.trans (h.trans (hs len) (h.pull8 ..)) (h.upd _ _ fun s => .setRegNZ s _ _))
  | pullFlags len => exact .done (h.trans (h.trans (hs len) (h.pull8 ..)) (h.upd _ _ (by intro _; rfl)))
  | alu op src len => exact .done (h.trans (h.trans (hs len) (h.operand ..)) (h.upd _ _ fun s => .run8 op s _))
  | compare r src len => exact .done (h.trans (h.trans (hs len) (h.operand ..)) (h.upd _ _ (by intro _; rfl)))
  | bit m len =>
    exact .done (h.trans (h.trans (hs len) (h.operand (.mem m) _))
      (h.upd _ (fun s => { s with fl := s.fl.bitTest s.a _ }) fun _ => rfl))
  | bitImm v len => exact .done (h.trans (hs len) (h.upd _ _ (by intro _; rfl)))
  | negate len => exact .done (h.trans (hs len) (h.upd _ _ fun s => .setRegNZ s _ _))
  | loadQ m len =>
    exact .done (h.trans (h.trans (h.trans (hs len) (h.ea ..)) (h.read32 ..)) (h.upd _ _ (by intro _; rfl)))
  | storeQ m len => exact .done (h.trans (h.trans (hs len) (h.ea ..)) (h.write32 ..))
  | aluQ op m len =>
    show Reaches R s (s.aluQ op m len)
    unfold State.aluQ
    split
    · exact fun t ht => by cases ht
    · exact .done (h.trans (h.trans (h.trans (hs len) (h.ea ..)) (h.read32 ..)) (h.upd _ _ fun s => .run32 op s _))
  | compareQ m len =>
    exact .done (h.trans (h.trans (h.trans (hs len) (h.ea ..)) (h.read32 ..)) (h.upd _ _ (by intro _; rfl)))
  | bitQ m len =>
    exact .done (h.trans (h.trans (h.trans (hs len) (h.ea ..)) (h.read32 ..)) (h.upd _ _ (by intro _; rfl)))
  | changeReg ch r len => exact .done (h.trans (hs len) (h.upd _ _ fun s => .setRegFlags s _ _ _))
  | changeMem ch m len => exact Reaches.rmw8 h ch.always (fun s v => ch.apply s.fl v) m len s
  | bitMem op m len => exact Reaches.rmw8 h false (fun s v => op.apply s.a s.fl v) m len s
  | changeWord ch m len =>
    exact .done (h.trans (h.trans (h.trans (h.trans (hs len) (h.ea ..)) (h.read16 ..)) (h.writeBack ..))
      (h.trans (h.upd _ _ (by intro _; rfl)) (h.write16 ..)))
  | changeQ ch len => exact .done (h.trans (hs len) (h.upd _ _ (by intro _; rfl)))
  | changeMemQ ch m len =>
    exact .done (h.trans (h.trans (h.trans (hs len) (h.ea ..)) (h.read32 ..))
      (h.trans (h.upd _ _ (by intro _; rfl)) (h.write32 ..)))
  | branch k d len => exact .done (h.trans (hs len) (h.upd _ _ (by intro s; exact .gotoIf s _ _)))
  | branchWord k d len => exact .done (h.trans (hs len) (h.upd _ _ (by intro s; exact .gotoIf s _ _)))
  | branchSub d len => exact .done (h.trans (h.trans (hs len) (h.push16 ..)) (h.upd _ _ (by intro _; rfl)))
  | branchBit on n nn d len =>
    let r := (Ctx.start len s).operand (.mem (.bp nn))
    let f : State → State := fun s => if r.1.getLsbD n.val == on then s.goto (shortTarget s.pc d) else s
    have hr : R (Ctx.start len s) r.2 := h.operand ..
    have hf : R r.2 (r.2.upd f) := h.upd _ _ fun s => .gotoIf s _ _
    exact .done (h.trans (h.trans (hs len) hr) hf)
  | jump t len => exact .done (h.trans (h.trans (hs len) (h.jumpTarget ..)) (h.upd _ _ (by intro _; rfl)))
  | call t len =>
    exact .done (h.trans (h.trans (h.trans (hs len) (h.push16 ..)) (h.jumpTarget ..)) (h.upd _ _ (by intro _; rfl)))
  | ret n len => exact .done (h.trans (h.trans (hs len) (h.pull16 ..)) (h.upd _ _ fun s => .gotoMoveSp s _ _))
  | retInterrupt len =>
    exact .done (h.trans (h.trans (h.trans (hs len) (h.pull8 ..)) (h.upd _ _ (by intro _; rfl)))
      (h.trans (h.pull16 ..) (h.upd _ _ (by intro _; rfl))))
  | brk len => exact .done (h.trans (hs len) (h.interrupt ..))
  | flag op len => exact .done (h.trans (hs len) (h.upd _ _ (by intro _; rfl)))
  | loadMap len => exact .done (h.trans (hs len) (h.upd _ _ (by intro _; rfl)))
  | endMap len => exact .done (h.trans (hs len) (h.upd _ _ (by intro _; rfl)))
  | reserved len => exact fun t ht => by cases ht

/-- A property that updates inside the CPU, reads and writes respect holds along every instruction that completes. -/
theorem exec_reaches {R : Ctx → Ctx → Prop} (h : Closed R) (i : Instr) (s : State) : Reaches R s (exec i s) :=
  exec_form i s ▸ Form.run_reaches h _ s

end Sys2Proof.Machine
end

