-- ==== Sys2Proof/Laws/PerInstr.lean ====
section
/-! SUPPORT. Facts about the encoding of each instruction, one lemma for each constructor. -/

namespace Sys2Proof.Laws.PrefixedLength

/-- Only the Q prefix `42 42` makes an instruction longer than three bytes (R110, R111, R113). -/
abbrev Statement (i : Instr) : Prop := (encode i).length ≤ 3 ∨ (encode i).take 2 = [negByte, negByte]

/-- An encoding that is short as it stands. -/
theorem ofShort {i : Instr} (h : (encode i).length.ble 3 = true) : Statement i := .inl (Nat.le_of_ble_eq_true h)

theorem brk (sig : Byte) : Statement (.brk sig) := ofShort rfl
theorem oraBpXInd (nn : Byte) : Statement (.oraBpXInd nn) := ofShort rfl
theorem cle : Statement .cle := ofShort rfl
theorem see : Statement .see := ofShort rfl
theorem tsbBp (nn : Byte) : Statement (.tsbBp nn) := ofShort rfl
theorem oraBp (nn : Byte) : Statement (.oraBp nn) := ofShort rfl
theorem aslBp (nn : Byte) : Statement (.aslBp nn) := ofShort rfl
theorem rmb0 (nn : Byte) : Statement (.rmb0 nn) := ofShort rfl
theorem php : Statement .php := ofShort rfl
theorem oraImm (v : Byte) : Statement (.oraImm v) := ofShort rfl
theorem aslA : Statement .aslA := ofShort rfl
theorem tsy : Statement .tsy := ofShort rfl
theorem tsbAbs (a : Word) : Statement (.tsbAbs a) := ofShort rfl
theorem oraAbs (a : Word) : Statement (.oraAbs a) := ofShort rfl
theorem aslAbs (a : Word) : Statement (.aslAbs a) := ofShort rfl
theorem bbr0 (nn : Byte) (d : Byte) : Statement (.bbr0 nn d) := ofShort rfl
theorem bplRel (d : Byte) : Statement (.bplRel d) := ofShort rfl
theorem oraBpIndY (nn : Byte) : Statement (.oraBpIndY nn) := ofShort rfl
theorem oraBpIndZ (nn : Byte) : Statement (.oraBpIndZ nn) := ofShort rfl
theorem bplRelW (d : Word) : Statement (.bplRelW d) := ofShort rfl
theorem trbBp (nn : Byte) : Statement (.trbBp nn) := ofShort rfl
theorem oraBpX (nn : Byte) : Statement (.oraBpX nn) := ofShort rfl
theorem aslBpX (nn : Byte) : Statement (.aslBpX nn) := ofShort rfl
theorem rmb1 (nn : Byte) : Statement (.rmb1 nn) := ofShort rfl
theorem clc : Statement .clc := ofShort rfl
theorem oraAbsY (a : Word) : Statement (.oraAbsY a) := ofShort rfl
theorem incA : Statement .incA := ofShort rfl
theorem inz : Statement .inz := ofShort rfl
theorem trbAbs (a : Word) : Statement (.trbAbs a) := ofShort rfl
theorem oraAbsX (a : Word) : Statement (.oraAbsX a) := ofShort rfl
theorem aslAbsX (a : Word) : Statement (.aslAbsX a) := ofShort rfl
theorem bbr1 (nn : Byte) (d : Byte) : Statement (.bbr1 nn d) := ofShort rfl
theorem jsrAbs (a : Word) : Statement (.jsrAbs a) := ofShort rfl
theorem andBpXInd (nn : Byte) : Statement (.andBpXInd nn) := ofShort rfl
theorem jsrInd (a : Word) : Statement (.jsrInd a) := ofShort rfl
theorem jsrIndX (a : Word) : Statement (.jsrIndX a) := ofShort rfl
theorem bitBp (nn : Byte) : Statement (.bitBp nn) := ofShort rfl
theorem andBp (nn : Byte) : Statement (.andBp nn) := ofShort rfl
theorem rolBp (nn : Byte) : Statement (.rolBp nn) := ofShort rfl
theorem rmb2 (nn : Byte) : Statement (.rmb2 nn) := ofShort rfl
theorem plp : Statement .plp := ofShort rfl
theorem andImm (v : Byte) : Statement (.andImm v) := ofShort rfl
theorem rolA : Statement .rolA := ofShort rfl
theorem tys : Statement .tys := ofShort rfl
theorem bitAbs (a : Word) : Statement (.bitAbs a) := ofShort rfl
theorem andAbs (a : Word) : Statement (.andAbs a) := ofShort rfl
theorem rolAbs (a : Word) : Statement (.rolAbs a) := ofShort rfl
theorem bbr2 (nn : Byte) (d : Byte) : Statement (.bbr2 nn d) := ofShort rfl
theorem bmiRel (d : Byte) : Statement (.bmiRel d) := ofShort rfl
theorem andBpIndY (nn : Byte) : Statement (.andBpIndY nn) := ofShort rfl
theorem andBpIndZ (nn : Byte) : Statement (.andBpIndZ nn) := ofShort rfl
theorem bmiRelW (d : Word) : Statement (.bmiRelW d) := ofShort rfl
theorem bitBpX (nn : Byte) : Statement (.bitBpX nn) := ofShort rfl
theorem andBpX (nn : Byte) : Statement (.andBpX nn) := ofShort rfl
theorem rolBpX (nn : Byte) : Statement (.rolBpX nn) := ofShort rfl
theorem rmb3 (nn : Byte) : Statement (.rmb3 nn) := ofShort rfl
theorem sec : Statement .sec := ofShort rfl
theorem andAbsY (a : Word) : Statement (.andAbsY a) := ofShort rfl
theorem decA : Statement .decA := ofShort rfl
theorem dez : Statement .dez := ofShort rfl
theorem bitAbsX (a : Word) : Statement (.bitAbsX a) := ofShort rfl
theorem andAbsX (a : Word) : Statement (.andAbsX a) := ofShort rfl
theorem rolAbsX (a : Word) : Statement (.rolAbsX a) := ofShort rfl
theorem bbr3 (nn : Byte) (d : Byte) : Statement (.bbr3 nn d) := ofShort rfl
theorem rti : Statement .rti := ofShort rfl
theorem eorBpXInd (nn : Byte) : Statement (.eorBpXInd nn) := ofShort rfl
theorem neg : Statement .neg := ofShort rfl
theorem asrA : Statement .asrA := ofShort rfl
theorem asrBp (nn : Byte) : Statement (.asrBp nn) := ofShort rfl
theorem eorBp (nn : Byte) : Statement (.eorBp nn) := ofShort rfl
theorem lsrBp (nn : Byte) : Statement (.lsrBp nn) := ofShort rfl
theorem rmb4 (nn : Byte) : Statement (.rmb4 nn) := ofShort rfl
theorem pha : Statement .pha := ofShort rfl
theorem eorImm (v : Byte) : Statement (.eorImm v) := ofShort rfl
theorem lsrA : Statement .lsrA := ofShort rfl
theorem taz : Statement .taz := ofShort rfl
theorem jmpAbs (a : Word) : Statement (.jmpAbs a) := ofShort rfl
theorem eorAbs (a : Word) : Statement (.eorAbs a) := ofShort rfl
theorem lsrAbs (a : Word) : Statement (.lsrAbs a) := ofShort rfl
theorem bbr4 (nn : Byte) (d : Byte) : Statement (.bbr4 nn d) := ofShort rfl
theorem bvcRel (d : Byte) : Statement (.bvcRel d) := ofShort rfl
theorem eorBpIndY (nn : Byte) : Statement (.eorBpIndY nn) := ofShort rfl
theorem eorBpIndZ (nn : Byte) : Statement (.eorBpIndZ nn) := ofShort rfl
theorem bvcRelW (d : Word) : Statement (.bvcRelW d) := ofShort rfl
theorem asrBpX (nn : Byte) : Statement (.asrBpX nn) := ofShort rfl
theorem eorBpX (nn : Byte) : Statement (.eorBpX nn) := ofShort rfl
theorem lsrBpX (nn : Byte) : Statement (.lsrBpX nn) := ofShort rfl
theorem rmb5 (nn : Byte) : Statement (.rmb5 nn) := ofShort rfl
theorem cli : Statement .cli := ofShort rfl
theorem eorAbsY (a : Word) : Statement (.eorAbsY a) := ofShort rfl
theorem phy : Statement .phy := ofShort rfl
theorem tab : Statement .tab := ofShort rfl
theorem map : Statement .map := ofShort rfl
theorem eorAbsX (a : Word) : Statement (.eorAbsX a) := ofShort rfl
theorem lsrAbsX (a : Word) : Statement (.lsrAbsX a) := ofShort rfl
theorem bbr5 (nn : Byte) (d : Byte) : Statement (.bbr5 nn d) := ofShort rfl
theorem rts : Statement .rts := ofShort rfl
theorem adcBpXInd (nn : Byte) : Statement (.adcBpXInd nn) := ofShort rfl
theorem rtsImm (n : Byte) : Statement (.rtsImm n) := ofShort rfl
theorem bsrRelW (d : Word) : Statement (.bsrRelW d) := ofShort rfl
theorem stzBp (nn : Byte) : Statement (.stzBp nn) := ofShort rfl
theorem adcBp (nn : Byte) : Statement (.adcBp nn) := ofShort rfl
theorem rorBp (nn : Byte) : Statement (.rorBp nn) := ofShort rfl
theorem rmb6 (nn : Byte) : Statement (.rmb6 nn) := ofShort rfl
theorem pla : Statement .pla := ofShort rfl
theorem adcImm (v : Byte) : Statement (.adcImm v) := ofShort rfl
theorem rorA : Statement .rorA := ofShort rfl
theorem tza : Statement .tza := ofShort rfl
theorem jmpInd (a : Word) : Statement (.jmpInd a) := ofShort rfl
theorem adcAbs (a : Word) : Statement (.adcAbs a) := ofShort rfl
theorem rorAbs (a : Word) : Statement (.rorAbs a) := ofShort rfl
theorem bbr6 (nn : Byte) (d : Byte) : Statement (.bbr6 nn d) := ofShort rfl
theorem bvsRel (d : Byte) : Statement (.bvsRel d) := ofShort rfl
theorem adcBpIndY (nn : Byte) : Statement (.adcBpIndY nn) := ofShort rfl
theorem adcBpIndZ (nn : Byte) : Statement (.adcBpIndZ nn) := ofShort rfl
theorem bvsRelW (d : Word) : Statement (.bvsRelW d) := ofShort rfl
theorem stzBpX (nn : Byte) : Statement (.stzBpX nn) := ofShort rfl
theorem adcBpX (nn : Byte) : Statement (.adcBpX nn) := ofShort rfl
theorem rorBpX (nn : Byte) : Statement (.rorBpX nn) := ofShort rfl
theorem rmb7 (nn : Byte) : Statement (.rmb7 nn) := ofShort rfl
theorem sei : Statement .sei := ofShort rfl
theorem adcAbsY (a : Word) : Statement (.adcAbsY a) := ofShort rfl
theorem ply : Statement .ply := ofShort rfl
theorem tba : Statement .tba := ofShort rfl
theorem jmpIndX (a : Word) : Statement (.jmpIndX a) := ofShort rfl
theorem adcAbsX (a : Word) : Statement (.adcAbsX a) := ofShort rfl
theorem rorAbsX (a : Word) : Statement (.rorAbsX a) := ofShort rfl
theorem bbr7 (nn : Byte) (d : Byte) : Statement (.bbr7 nn d) := ofShort rfl
theorem braRel (d : Byte) : Statement (.braRel d) := ofShort rfl
theorem staBpXInd (nn : Byte) : Statement (.staBpXInd nn) := ofShort rfl
theorem staSpIndY (nn : Byte) : Statement (.staSpIndY nn) := ofShort rfl
theorem braRelW (d : Word) : Statement (.braRelW d) := ofShort rfl
theorem styBp (nn : Byte) : Statement (.styBp nn) := ofShort rfl
theorem staBp (nn : Byte) : Statement (.staBp nn) := ofShort rfl
theorem stxBp (nn : Byte) : Statement (.stxBp nn) := ofShort rfl
theorem smb0 (nn : Byte) : Statement (.smb0 nn) := ofShort rfl
theorem dey : Statement .dey := ofShort rfl
theorem bitImm (v : Byte) : Statement (.bitImm v) := ofShort rfl
theorem txa : Statement .txa := ofShort rfl
theorem styAbsX (a : Word) : Statement (.styAbsX a) := ofShort rfl
theorem styAbs (a : Word) : Statement (.styAbs a) := ofShort rfl
theorem staAbs (a : Word) : Statement (.staAbs a) := ofShort rfl
theorem stxAbs (a : Word) : Statement (.stxAbs a) := ofShort rfl
theorem bbs0 (nn : Byte) (d : Byte) : Statement (.bbs0 nn d) := ofShort rfl
theorem bccRel (d : Byte) : Statement (.bccRel d) := ofShort rfl
theorem staBpIndY (nn : Byte) : Statement (.staBpIndY nn) := ofShort rfl
theorem staBpIndZ (nn : Byte) : Statement (.staBpIndZ nn) := ofShort rfl
theorem bccRelW (d : Word) : Statement (.bccRelW d) := ofShort rfl
theorem styBpX (nn : Byte) : Statement (.styBpX nn) := ofShort rfl
theorem staBpX (nn : Byte) : Statement (.staBpX nn) := ofShort rfl
theorem stxBpY (nn : Byte) : Statement (.stxBpY nn) := ofShort rfl
theorem smb1 (nn : Byte) : Statement (.smb1 nn) := ofShort rfl
theorem tya : Statement .tya := ofShort rfl
theorem staAbsY (a : Word) : Statement (.staAbsY a) := ofShort rfl
theorem txs : Statement .txs := ofShort rfl
theorem stxAbsY (a : Word) : Statement (.stxAbsY a) := ofShort rfl
theorem stzAbs (a : Word) : Statement (.stzAbs a) := ofShort rfl
theorem staAbsX (a : Word) : Statement (.staAbsX a) := ofShort rfl
theorem stzAbsX (a : Word) : Statement (.stzAbsX a) := ofShort rfl
theorem bbs1 (nn : Byte) (d : Byte) : Statement (.bbs1 nn d) := ofShort rfl
theorem ldyImm (v : Byte) : Statement (.ldyImm v) := ofShort rfl
theorem ldaBpXInd (nn : Byte) : Statement (.ldaBpXInd nn) := ofShort rfl
theorem ldxImm (v : Byte) : Statement (.ldxImm v) := ofShort rfl
theorem ldzImm (v : Byte) : Statement (.ldzImm v) := ofShort rfl
theorem ldyBp (nn : Byte) : Statement (.ldyBp nn) := ofShort rfl
theorem ldaBp (nn : Byte) : Statement (.ldaBp nn) := ofShort rfl
theorem ldxBp (nn : Byte) : Statement (.ldxBp nn) := ofShort rfl
theorem smb2 (nn : Byte) : Statement (.smb2 nn) := ofShort rfl
theorem tay : Statement .tay := ofShort rfl
theorem ldaImm (v : Byte) : Statement (.ldaImm v) := ofShort rfl
theorem tax : Statement .tax := ofShort rfl
theorem ldzAbs (a : Word) : Statement (.ldzAbs a) := ofShort rfl
theorem ldyAbs (a : Word) : Statement (.ldyAbs a) := ofShort rfl
theorem ldaAbs (a : Word) : Statement (.ldaAbs a) := ofShort rfl
theorem ldxAbs (a : Word) : Statement (.ldxAbs a) := ofShort rfl
theorem bbs2 (nn : Byte) (d : Byte) : Statement (.bbs2 nn d) := ofShort rfl
theorem bcsRel (d : Byte) : Statement (.bcsRel d) := ofShort rfl
theorem ldaBpIndY (nn : Byte) : Statement (.ldaBpIndY nn) := ofShort rfl
theorem ldaBpIndZ (nn : Byte) : Statement (.ldaBpIndZ nn) := ofShort rfl
theorem bcsRelW (d : Word) : Statement (.bcsRelW d) := ofShort rfl
theorem ldyBpX (nn : Byte) : Statement (.ldyBpX nn) := ofShort rfl
theorem ldaBpX (nn : Byte) : Statement (.ldaBpX nn) := ofShort rfl
theorem ldxBpY (nn : Byte) : Statement (.ldxBpY nn) := ofShort rfl
theorem smb3 (nn : Byte) : Statement (.smb3 nn) := ofShort rfl
theorem clv : Statement .clv := ofShort rfl
theorem ldaAbsY (a : Word) : Statement (.ldaAbsY a) := ofShort rfl
theorem tsx : Statement .tsx := ofShort rfl
theorem ldzAbsX (a : Word) : Statement (.ldzAbsX a) := ofShort rfl
theorem ldyAbsX (a : Word) : Statement (.ldyAbsX a) := ofShort rfl
theorem ldaAbsX (a : Word) : Statement (.ldaAbsX a) := ofShort rfl
theorem ldxAbsY (a : Word) : Statement (.ldxAbsY a) := ofShort rfl
theorem bbs3 (nn : Byte) (d : Byte) : Statement (.bbs3 nn d) := ofShort rfl
theorem cpyImm (v : Byte) : Statement (.cpyImm v) := ofShort rfl
theorem cmpBpXInd (nn : Byte) : Statement (.cmpBpXInd nn) := ofShort rfl
theorem cpzImm (v : Byte) : Statement (.cpzImm v) := ofShort rfl
theorem dewBp (nn : Byte) : Statement (.dewBp nn) := ofShort rfl
theorem cpyBp (nn : Byte) : Statement (.cpyBp nn) := ofShort rfl
theorem cmpBp (nn : Byte) : Statement (.cmpBp nn) := ofShort rfl
theorem decBp (nn : Byte) : Statement (.decBp nn) := ofShort rfl
theorem smb4 (nn : Byte) : Statement (.smb4 nn) := ofShort rfl
theorem iny : Statement .iny := ofShort rfl
theorem cmpImm (v : Byte) : Statement (.cmpImm v) := ofShort rfl
theorem dex : Statement .dex := ofShort rfl
theorem aswAbs (a : Word) : Statement (.aswAbs a) := ofShort rfl
theorem cpyAbs (a : Word) : Statement (.cpyAbs a) := ofShort rfl
theorem cmpAbs (a : Word) : Statement (.cmpAbs a) := ofShort rfl
theorem decAbs (a : Word) : Statement (.decAbs a) := ofShort rfl
theorem bbs4 (nn : Byte) (d : Byte) : Statement (.bbs4 nn d) := ofShort rfl
theorem bneRel (d : Byte) : Statement (.bneRel d) := ofShort rfl
theorem cmpBpIndY (nn : Byte) : Statement (.cmpBpIndY nn) := ofShort rfl
theorem cmpBpIndZ (nn : Byte) : Statement (.cmpBpIndZ nn) := ofShort rfl
theorem bneRelW (d : Word) : Statement (.bneRelW d) := ofShort rfl
theorem cpzBp (nn : Byte) : Statement (.cpzBp nn) := ofShort rfl
theorem cmpBpX (nn : Byte) : Statement (.cmpBpX nn) := ofShort rfl
theorem decBpX (nn : Byte) : Statement (.decBpX nn) := ofShort rfl
theorem smb5 (nn : Byte) : Statement (.smb5 nn) := ofShort rfl
theorem cld : Statement .cld := ofShort rfl
theorem cmpAbsY (a : Word) : Statement (.cmpAbsY a) := ofShort rfl
theorem phx : Statement .phx := ofShort rfl
theorem phz : Statement .phz := ofShort rfl
theorem cpzAbs (a : Word) : Statement (.cpzAbs a) := ofShort rfl
theorem cmpAbsX (a : Word) : Statement (.cmpAbsX a) := ofShort rfl
theorem decAbsX (a : Word) : Statement (.decAbsX a) := ofShort rfl
theorem bbs5 (nn : Byte) (d : Byte) : Statement (.bbs5 nn d) := ofShort rfl
theorem cpxImm (v : Byte) : Statement (.cpxImm v) := ofShort rfl
theorem sbcBpXInd (nn : Byte) : Statement (.sbcBpXInd nn) := ofShort rfl
theorem ldaSpIndY (nn : Byte) : Statement (.ldaSpIndY nn) := ofShort rfl
theorem inwBp (nn : Byte) : Statement (.inwBp nn) := ofShort rfl
theorem cpxBp (nn : Byte) : Statement (.cpxBp nn) := ofShort rfl
theorem sbcBp (nn : Byte) : Statement (.sbcBp nn) := ofShort rfl
theorem incBp (nn : Byte) : Statement (.incBp nn) := ofShort rfl
theorem smb6 (nn : Byte) : Statement (.smb6 nn) := ofShort rfl
theorem inx : Statement .inx := ofShort rfl
theorem sbcImm (v : Byte) : Statement (.sbcImm v) := ofShort rfl
theorem eom : Statement .eom := ofShort rfl
theorem rowAbs (a : Word) : Statement (.rowAbs a) := ofShort rfl
theorem cpxAbs (a : Word) : Statement (.cpxAbs a) := ofShort rfl
theorem sbcAbs (a : Word) : Statement (.sbcAbs a) := ofShort rfl
theorem incAbs (a : Word) : Statement (.incAbs a) := ofShort rfl
theorem bbs6 (nn : Byte) (d : Byte) : Statement (.bbs6 nn d) := ofShort rfl
theorem beqRel (d : Byte) : Statement (.beqRel d) := ofShort rfl
theorem sbcBpIndY (nn : Byte) : Statement (.sbcBpIndY nn) := ofShort rfl
theorem sbcBpIndZ (nn : Byte) : Statement (.sbcBpIndZ nn) := ofShort rfl
theorem beqRelW (d : Word) : Statement (.beqRelW d) := ofShort rfl
theorem phwImmW (w : Word) : Statement (.phwImmW w) := ofShort rfl
theorem sbcBpX (nn : Byte) : Statement (.sbcBpX nn) := ofShort rfl
theorem incBpX (nn : Byte) : Statement (.incBpX nn) := ofShort rfl
theorem smb7 (nn : Byte) : Statement (.smb7 nn) := ofShort rfl
theorem sed : Statement .sed := ofShort rfl
theorem sbcAbsY (a : Word) : Statement (.sbcAbsY a) := ofShort rfl
theorem plx : Statement .plx := ofShort rfl
theorem plz : Statement .plz := ofShort rfl
theorem phwAbs (a : Word) : Statement (.phwAbs a) := ofShort rfl
theorem sbcAbsX (a : Word) : Statement (.sbcAbsX a) := ofShort rfl
theorem incAbsX (a : Word) : Statement (.incAbsX a) := ofShort rfl
theorem bbs7 (nn : Byte) (d : Byte) : Statement (.bbs7 nn d) := ofShort rfl
theorem ldqBp (nn : Byte) : Statement (.ldqBp nn) := .inr rfl
theorem ldqAbs (a : Word) : Statement (.ldqAbs a) := .inr rfl
theorem ldqBpIndZ (nn : Byte) : Statement (.ldqBpIndZ nn) := .inr rfl
theorem stqBp (nn : Byte) : Statement (.stqBp nn) := .inr rfl
theorem stqAbs (a : Word) : Statement (.stqAbs a) := .inr rfl
theorem stqBpInd (nn : Byte) : Statement (.stqBpInd nn) := .inr rfl
theorem adcqBp (nn : Byte) : Statement (.adcqBp nn) := .inr rfl
theorem adcqAbs (a : Word) : Statement (.adcqAbs a) := .inr rfl
theorem adcqBpInd (nn : Byte) : Statement (.adcqBpInd nn) := .inr rfl
theorem sbcqBp (nn : Byte) : Statement (.sbcqBp nn) := .inr rfl
theorem sbcqAbs (a : Word) : Statement (.sbcqAbs a) := .inr rfl
theorem sbcqBpInd (nn : Byte) : Statement (.sbcqBpInd nn) := .inr rfl
theorem cmpqBp (nn : Byte) : Statement (.cmpqBp nn) := .inr rfl
theorem cmpqAbs (a : Word) : Statement (.cmpqAbs a) := .inr rfl
theorem cmpqBpInd (nn : Byte) : Statement (.cmpqBpInd nn) := .inr rfl
theorem andqBp (nn : Byte) : Statement (.andqBp nn) := .inr rfl
theorem andqAbs (a : Word) : Statement (.andqAbs a) := .inr rfl
theorem andqBpInd (nn : Byte) : Statement (.andqBpInd nn) := .inr rfl
theorem orqBp (nn : Byte) : Statement (.orqBp nn) := .inr rfl
theorem orqAbs (a : Word) : Statement (.orqAbs a) := .inr rfl
theorem orqBpInd (nn : Byte) : Statement (.orqBpInd nn) := .inr rfl
theorem eorqBp (nn : Byte) : Statement (.eorqBp nn) := .inr rfl
theorem eorqAbs (a : Word) : Statement (.eorqAbs a) := .inr rfl
theorem eorqBpInd (nn : Byte) : Statement (.eorqBpInd nn) := .inr rfl
theorem bitqBp (nn : Byte) : Statement (.bitqBp nn) := .inr rfl
theorem bitqAbs (a : Word) : Statement (.bitqAbs a) := .inr rfl
theorem aslqQ : Statement .aslqQ := .inr rfl
theorem aslqBp (nn : Byte) : Statement (.aslqBp nn) := .inr rfl
theorem aslqBpX (nn : Byte) : Statement (.aslqBpX nn) := .inr rfl
theorem aslqAbs (a : Word) : Statement (.aslqAbs a) := .inr rfl
theorem aslqAbsX (a : Word) : Statement (.aslqAbsX a) := .inr rfl
theorem asrqQ : Statement .asrqQ := .inr rfl
theorem asrqBp (nn : Byte) : Statement (.asrqBp nn) := .inr rfl
theorem asrqBpX (nn : Byte) : Statement (.asrqBpX nn) := .inr rfl
theorem lsrqQ : Statement .lsrqQ := .inr rfl
theorem lsrqBp (nn : Byte) : Statement (.lsrqBp nn) := .inr rfl
theorem lsrqBpX (nn : Byte) : Statement (.lsrqBpX nn) := .inr rfl
theorem lsrqAbs (a : Word) : Statement (.lsrqAbs a) := .inr rfl
theorem lsrqAbsX (a : Word) : Statement (.lsrqAbsX a) := .inr rfl
theorem rolqQ : Statement .rolqQ := .inr rfl
theorem rolqBp (nn : Byte) : Statement (.rolqBp nn) := .inr rfl
theorem rolqBpX (nn : Byte) : Statement (.rolqBpX nn) := .inr rfl
theorem rolqAbs (a : Word) : Statement (.rolqAbs a) := .inr rfl
theorem rolqAbsX (a : Word) : Statement (.rolqAbsX a) := .inr rfl
theorem rorqQ : Statement .rorqQ := .inr rfl
theorem rorqBp (nn : Byte) : Statement (.rorqBp nn) := .inr rfl
theorem rorqBpX (nn : Byte) : Statement (.rorqBpX nn) := .inr rfl
theorem rorqAbs (a : Word) : Statement (.rorqAbs a) := .inr rfl
theorem rorqAbsX (a : Word) : Statement (.rorqAbsX a) := .inr rfl
theorem inqQ : Statement .inqQ := .inr rfl
theorem inqBp (nn : Byte) : Statement (.inqBp nn) := .inr rfl
theorem inqBpX (nn : Byte) : Statement (.inqBpX nn) := .inr rfl
theorem inqAbs (a : Word) : Statement (.inqAbs a) := .inr rfl
theorem inqAbsX (a : Word) : Statement (.inqAbsX a) := .inr rfl
theorem deqQ : Statement .deqQ := .inr rfl
theorem deqBp (nn : Byte) : Statement (.deqBp nn) := .inr rfl
theorem deqBpX (nn : Byte) : Statement (.deqBpX nn) := .inr rfl
theorem deqAbs (a : Word) : Statement (.deqAbs a) := .inr rfl
theorem deqAbsX (a : Word) : Statement (.deqAbsX a) := .inr rfl
theorem oraFarZ (nn : Byte) : Statement (.oraFarZ nn) := ofShort rfl
theorem andFarZ (nn : Byte) : Statement (.andFarZ nn) := ofShort rfl
theorem eorFarZ (nn : Byte) : Statement (.eorFarZ nn) := ofShort rfl
theorem adcFarZ (nn : Byte) : Statement (.adcFarZ nn) := ofShort rfl
theorem staFarZ (nn : Byte) : Statement (.staFarZ nn) := ofShort rfl
theorem ldaFarZ (nn : Byte) : Statement (.ldaFarZ nn) := ofShort rfl
theorem cmpFarZ (nn : Byte) : Statement (.cmpFarZ nn) := ofShort rfl
theorem sbcFarZ (nn : Byte) : Statement (.sbcFarZ nn) := ofShort rfl
theorem orqFar (nn : Byte) : Statement (.orqFar nn) := .inr rfl
theorem andqFar (nn : Byte) : Statement (.andqFar nn) := .inr rfl
theorem eorqFar (nn : Byte) : Statement (.eorqFar nn) := .inr rfl
theorem adcqFar (nn : Byte) : Statement (.adcqFar nn) := .inr rfl
theorem stqFar (nn : Byte) : Statement (.stqFar nn) := .inr rfl
theorem ldqFarZ (nn : Byte) : Statement (.ldqFarZ nn) := .inr rfl
theorem cmpqFar (nn : Byte) : Statement (.cmpqFar nn) := .inr rfl
theorem sbcqFar (nn : Byte) : Statement (.sbcqFar nn) := .inr rfl
theorem resq15 (nn : Byte) : Statement (.resq15 nn) := .inr rfl
theorem resq34 (nn : Byte) : Statement (.resq34 nn) := .inr rfl
theorem resq35 (nn : Byte) : Statement (.resq35 nn) := .inr rfl
theorem resq55 (nn : Byte) : Statement (.resq55 nn) := .inr rfl
theorem resq75 (nn : Byte) : Statement (.resq75 nn) := .inr rfl
theorem resq1D (a : Word) : Statement (.resq1D a) := .inr rfl
theorem resq3C (a : Word) : Statement (.resq3C a) := .inr rfl
theorem resq3D (a : Word) : Statement (.resq3D a) := .inr rfl
theorem resq5D (a : Word) : Statement (.resq5D a) := .inr rfl
theorem resq7D (a : Word) : Statement (.resq7D a) := .inr rfl
theorem resq19 (a : Word) : Statement (.resq19 a) := .inr rfl
theorem resq39 (a : Word) : Statement (.resq39 a) := .inr rfl
theorem resq59 (a : Word) : Statement (.resq59 a) := .inr rfl
theorem resq79 (a : Word) : Statement (.resq79 a) := .inr rfl
theorem resq01 (nn : Byte) : Statement (.resq01 nn) := .inr rfl
theorem resq21 (nn : Byte) : Statement (.resq21 nn) := .inr rfl
theorem resq41 (nn : Byte) : Statement (.resq41 nn) := .inr rfl
theorem resq61 (nn : Byte) : Statement (.resq61 nn) := .inr rfl
theorem resq11 (nn : Byte) : Statement (.resq11 nn) := .inr rfl
theorem resq31 (nn : Byte) : Statement (.resq31 nn) := .inr rfl
theorem resq51 (nn : Byte) : Statement (.resq51 nn) := .inr rfl
theorem resq71 (nn : Byte) : Statement (.resq71 nn) := .inr rfl
theorem rsvq95 (nn : Byte) : Statement (.rsvq95 nn) := .inr rfl
theorem rsvqD5 (nn : Byte) : Statement (.rsvqD5 nn) := .inr rfl
theorem rsvqF5 (nn : Byte) : Statement (.rsvqF5 nn) := .inr rfl
theorem rsvq9D (a : Word) : Statement (.rsvq9D a) := .inr rfl
theorem rsvqDD (a : Word) : Statement (.rsvqDD a) := .inr rfl
theorem rsvqFD (a : Word) : Statement (.rsvqFD a) := .inr rfl
theorem rsvq99 (a : Word) : Statement (.rsvq99 a) := .inr rfl
theorem rsvqD9 (a : Word) : Statement (.rsvqD9 a) := .inr rfl
theorem rsvqF9 (a : Word) : Statement (.rsvqF9 a) := .inr rfl
theorem rsvq81 (nn : Byte) : Statement (.rsvq81 nn) := .inr rfl
theorem rsvqA1 (nn : Byte) : Statement (.rsvqA1 nn) := .inr rfl
theorem rsvqC1 (nn : Byte) : Statement (.rsvqC1 nn) := .inr rfl
theorem rsvqE1 (nn : Byte) : Statement (.rsvqE1 nn) := .inr rfl
theorem rsvq91 (nn : Byte) : Statement (.rsvq91 nn) := .inr rfl
theorem rsvqD1 (nn : Byte) : Statement (.rsvqD1 nn) := .inr rfl
theorem rsvqF1 (nn : Byte) : Statement (.rsvqF1 nn) := .inr rfl
theorem rsvq82 (nn : Byte) : Statement (.rsvq82 nn) := .inr rfl

end Sys2Proof.Laws.PrefixedLength
end

