-- ==== Sys2Proof/Laws/Sites.lean ====
section
/-! SUPPORT. What the byte accesses of each shared operation do to hypervisor mode and to the SYSCALL raised: they are
tracked by the operation's list of sites. -/

namespace Sys2Proof.Machine

/-! ### The lowest SYSCALL -/

/-- The SYSCALLs that are raised already or by one of the accesses. -/
def Raised (o : Option (BitVec 6)) (xs : List Site) (n : BitVec 6) : Prop := o = some n ∨ ∃ x ∈ xs, x.syscalls n

theorem Lowest.some (o : Option (BitVec 6)) : Lowest (fun n => o = some n) o :=
  fun n => ⟨fun h => ⟨h, fun m hm => by rw [h] at hm; cases hm; exact Nat.le_refl _⟩, fun h => h.1⟩

theorem Lowest.congr {p q : BitVec 6 → Prop} {o : Option (BitVec 6)} (h : Lowest p o) (e : ∀ n, p n ↔ q n) :
    Lowest q o := fun n => by simp only [← e]; exact h n

/-- Any set of numbers has its lowest. -/
theorem Lowest.exists (p : BitVec 6 → Prop) : (∃ n, p n) → ∃ n, p n ∧ ∀ m, p m → n.toNat ≤ m.toNat := by
  classical
  intro ⟨n, hn⟩
  have hex : ∃ k, ∃ n : BitVec 6, p n ∧ n.toNat = k := ⟨_, n, hn, rfl⟩
  obtain ⟨m, hm, hk⟩ := Nat.find_spec hex
  exact ⟨m, hm, fun m' hm' => by rw [hk]; exact Nat.find_min' hex ⟨m', hm', rfl⟩⟩

/-- The lowest of the lowest and further numbers is the lowest of all. -/
theorem Lowest.trans {p q : BitVec 6 → Prop} {o o' : Option (BitVec 6)} (h : Lowest p o)
    (h' : Lowest (fun n => o = Option.some n ∨ q n) o') : Lowest (fun n => p n ∨ q n) o' := by
  intro n
  rw [h' n]
  constructor
  · rintro ⟨hn, hle⟩
    refine ⟨hn.imp (fun e => ((h n).1 e).1) id, fun m hm => ?_⟩
    rcases hm with hm | hm
    · obtain ⟨k, hk, hkm⟩ := Lowest.exists p ⟨m, hm⟩
      exact Nat.le_trans (hle k (.inl ((h k).2 ⟨hk, hkm⟩))) (hkm m hm)
    · exact hle m (.inr hm)
  · rintro ⟨hn, hle⟩
    refine ⟨hn.imp (fun e => (h n).2 ⟨e, fun m hm => hle m (.inl hm)⟩) id, fun m hm => ?_⟩
    exact hle m (hm.imp (fun e => ((h m).1 e).1) id)

theorem lowest_lowerSyscall (n : BitVec 6) (o : Option (BitVec 6)) :
    Lowest (fun k => o = some k ∨ k = n) (some (lowerSyscall n o)) := by
  intro k
  cases o with
  | none =>
    simp only [lowerSyscall, Option.some.injEq]
    constructor
    · rintro rfl
      exact ⟨.inr rfl, fun m hm => by rcases hm with hm | rfl <;> [cases hm; exact Nat.le_refl _]⟩
    · rintro ⟨h | rfl, -⟩ <;> [cases h; rfl]
  | some j =>
    simp only [lowerSyscall, Option.some.injEq, BitVec.lt_def]
    constructor
    · split
      · rintro rfl; exact ⟨.inr rfl, by rintro m (rfl | rfl) <;> omega⟩
      · rintro rfl; exact ⟨.inl rfl, by rintro m (rfl | rfl) <;> omega⟩
    · rintro ⟨hk, hle⟩
      have h1 := hle j (.inl rfl)
      have h2 := hle n (.inr rfl)
      apply BitVec.eq_of_toNat_eq
      split <;> rcases hk with rfl | rfl <;> omega

/-! ### Which register an offset is -/

theorem virt_offset (off : BitVec 12) (n : BitVec 6) :
    (off.extractLsb' 6 6 = 0x19#6 ∧ off.extractLsb' 0 6 = n) ↔ off = 0x640#12 + n.setWidth 12 := by
  have := n.isLt
  have := off.isLt
  simp only [← BitVec.toNat_inj, BitVec.extractLsb'_toNat, BitVec.toNat_add, BitVec.toNat_setWidth, BitVec.toNat_ofNat,
    Nat.shiftRight_eq_div_pow]
  omega

theorem State.ioReg_virt (s : State) (off : BitVec 12) (n : BitVec 6) :
    s.ioReg off = .virt n ↔ s.ioMode = ioMega65 ∧ off = 0x640#12 + n.setWidth 12 := by
  rw [← virt_offset]
  unfold State.ioReg
  split
  · rename_i h; simp [h]
  · rename_i h
    constructor
    · intro e; split at e <;> [cases e; (split at e <;> [cases e; (split at e <;> cases e)])]
    · rintro ⟨h1, h2, -⟩; exact absurd ⟨h1, h2⟩ h

/-! ### One byte -/

/-- What a list of accesses does to the machine inside an instruction: the instruction is to leave hypervisor mode if
one of them wrote `$D67F`, the SYSCALL raised is the lowest touched, and the mode is as it was, all along. -/
structure Tracks (c c' : Ctx) (xs : List Site) : Prop where
  leave : c'.leave = true ↔ c.leave = true ∨ ∃ x ∈ xs, x.exits
  syscall : Lowest (Raised c.st.syscall xs) c'.st.syscall
  hyper : c'.st.hyper = c.st.hyper
  during : ∀ x ∈ xs, x.ctx.st.hyper = c.st.hyper

theorem ReadFrame.hyper {c c' : Ctx} (h : ReadFrame c c') : c'.st.hyper = c.st.hyper := by
  obtain ⟨_, _, _, _, rfl⟩ := h; rfl

theorem WriteFrame.hyper {c c' : Ctx} (h : WriteFrame c c') : c'.st.hyper = c.st.hyper := by
  obtain ⟨_, _, _, _, _, _, _, _, _, rfl, -⟩ := h; rfl

theorem Tracks.of_eq {c c' : Ctx} (hl : c'.leave = c.leave) (hs : c'.st.syscall = c.st.syscall)
    (hh : c'.st.hyper = c.st.hyper) : Tracks c c' [] :=
  ⟨by simp [hl], by rw [hs]; exact (Lowest.some _).congr fun n => by simp [Raised], hh, by simp⟩

theorem Tracks.refl (c : Ctx) : Tracks c c [] := .of_eq rfl rfl rfl

theorem Tracks.trans {c c' c'' : Ctx} {xs ys : List Site} (h : Tracks c c' xs) (h' : Tracks c' c'' ys) :
    Tracks c c'' (xs ++ ys) := by
  refine ⟨?_, ?_, h'.hyper.trans h.hyper, fun x hx => ?_⟩
  · rw [h'.leave, h.leave]; simp [or_and_right, exists_or, or_assoc]
  · exact (h.syscall.trans h'.syscall).congr fun n => by
      simp only [Raised, List.mem_append, or_and_right, exists_or, or_assoc]
  · exact (List.mem_append.1 hx).elim (h.during x) fun hx => (h'.during x hx).trans h.hyper

theorem Tracks.single {c c' : Ctx} {acc : Access} {pl : Place}
    (hl : c'.leave = true ↔ c.leave = true ∨ (c.site acc pl).exits)
    (hs : Lowest (fun n => c.st.syscall = some n ∨ (c.site acc pl).syscalls n) c'.st.syscall)
    (hh : c'.st.hyper = c.st.hyper) : Tracks c c' [c.site acc pl] :=
  ⟨by simpa using hl, hs.congr fun n => by simp [Raised], hh, fun x hx => by rw [List.mem_singleton.1 hx]; rfl⟩

/-- An access that reaches no virtualisation register. -/
theorem Tracks.plain {c c' : Ctx} {acc : Access} {pl : Place}
    (hx : ∀ n : BitVec 6, ¬(c.site acc pl).atMega65 (0x640#12 + n.setWidth 12)) (hl : c'.leave = c.leave)
    (hs : c'.st.syscall = c.st.syscall) (hh : c'.st.hyper = c.st.hyper) : Tracks c c' [c.site acc pl] :=
  .single (by simp only [Site.exits, hl, show (0x67F#12 : BitVec 12) = 0x640#12 + (0x3F#6 : BitVec 6).setWidth 12 from rfl,
      hx, and_false, or_false])
    (by rw [hs]; exact (Lowest.some _).congr fun n => by simp [Site.syscalls, hx]) hh

theorem Ctx.answer_leave (p : Phys) (c : Ctx) : (c.answer p).2.leave = c.leave := by unfold Ctx.answer; split <;> rfl
theorem Ctx.answer_syscall (p : Phys) (c : Ctx) : (c.answer p).2.st.syscall = c.st.syscall := by
  unfold Ctx.answer; split <;> rfl
theorem Ctx.answer_hyper (p : Phys) (c : Ctx) : (c.answer p).2.st.hyper = c.st.hyper := by
  unfold Ctx.answer; split <;> rfl
theorem Ctx.answer_cfg (p : Phys) (c : Ctx) : (c.answer p).2.st.cfg = c.st.cfg := by
  unfold Ctx.answer; split <;> rfl
theorem Ctx.readCell_leave (p : Phys) (c : Ctx) : (c.readCell p).2.leave = c.leave := by
  unfold Ctx.readCell; split <;> [rfl; exact c.answer_leave p]
theorem Ctx.readCell_syscall (p : Phys) (c : Ctx) : (c.readCell p).2.st.syscall = c.st.syscall := by
  unfold Ctx.readCell; split <;> [rfl; exact c.answer_syscall p]
theorem Ctx.writeCell_leave (p : Phys) (v : Byte) (c : Ctx) : (c.writeCell p v).leave = c.leave := by
  unfold Ctx.writeCell; split <;> rfl
theorem Ctx.writeCell_syscall (p : Phys) (v : Byte) (c : Ctx) : (c.writeCell p v).st.syscall = c.st.syscall := by
  unfold Ctx.writeCell State.writeCell
  split
  · rename_i s h
    split at h <;> simp only [Option.some.injEq, reduceCtorEq] at h <;> subst h
    · rfl
    · split <;> rfl
    · split <;> rfl
  · rfl

theorem Site.atMega65_iff {c : Ctx} {acc : Access} {pl : Place} {p : Phys} {off : BitVec 12}
    (ht : c.st.target acc pl = .phys p) (hk : c.st.kindOf p = .io off) (n : BitVec 6) :
    (c.site acc pl).atMega65 (0x640#12 + n.setWidth 12) ↔ c.st.ioReg off = .virt n := by
  rw [State.ioReg_virt]
  simp only [Site.atMega65, Site.phys, Ctx.site, ht, Option.some.injEq, exists_eq_left', hk, PhysKind.io.injEq]

/-- A data read of a byte. -/
theorem Ctx.read8_tracks (pl : Place) (c : Ctx) : Tracks c (c.read8 pl).2 [c.site .read pl] := by
  have no {t : Target} (ht : c.st.target .read pl = t) (hp : ∀ p, t ≠ .phys p) (n : BitVec 6) :
      ¬(c.site .read pl).atMega65 (0x640#12 + n.setWidth 12) := by
    rintro ⟨-, p, h, -⟩
    simp only [Site.phys, Ctx.site, ht] at h
    split at h
    · exact hp _ rfl
    all_goals cases h
  have hf : (c.read8 pl).2.st.hyper = c.st.hyper := (Ctx.readTarget_frame ..).hyper
  revert hf
  unfold Ctx.read8 Ctx.readTarget
  split
  · rename_i p ht
    unfold Ctx.physRead
    split
    · rename_i off hk
      unfold Ctx.ioRead
      split
      · rename_i n hr
        have hat := Site.atMega65_iff ht hk
        unfold Ctx.virtRead
        rw [if_neg (by decide)]
        split
        · rename_i hh
          have hs : Lowest (fun n => c.st.syscall = some n ∨ (c.site .read pl).syscalls n) c.st.syscall :=
            (Lowest.some _).congr fun n => by simp [Site.syscalls, Ctx.site, hh]
          split
          · exact .single (by simp [Site.exits, Ctx.site]) hs
          · exact .single (by simp [Site.exits, Ctx.site, Ctx.answer_leave]) (by rw [Ctx.answer_syscall]; exact hs)
        · rename_i hh
          simp only [Ctx.answer_cfg]
          refine .single ?_ ?_
          · split <;> simp [Site.exits, Ctx.site, Ctx.answer_leave, Ctx.touch]
          · split
            · rename_i hsr
              simp only [Ctx.touch, Ctx.upd_st, Ctx.answer_syscall]
              refine (lowest_lowerSyscall n c.st.syscall).congr fun k => or_congr Iff.rfl ?_
              simp only [Site.syscalls, hat, hr, IoReg.virt.injEq]
              simp [Ctx.site, hsr, hh, eq_comm]
            · rename_i hsr
              rw [Ctx.answer_syscall]
              exact (Lowest.some _).congr fun k => by simp [Site.syscalls, Ctx.site, hsr]
      all_goals
        rename_i hr
        refine .plain (fun n => by rw [Site.atMega65_iff ht hk, hr]; simp) ?_ ?_
        · first | rfl | exact Ctx.readCell_leave .. | exact Ctx.answer_leave ..
        · first | rfl | exact Ctx.readCell_syscall .. | exact Ctx.answer_syscall ..
    · rename_i hk
      refine .plain (fun n => ?_) (Ctx.readCell_leave ..) (Ctx.readCell_syscall ..)
      rintro ⟨-, q, hq, hk'⟩
      simp only [Site.phys, Ctx.site, ht, Option.some.injEq] at hq
      exact hk _ (hq ▸ hk')
  · rename_i ht; exact .plain (no ht (by simp)) rfl rfl
  · rename_i ht; exact .plain (no ht (by simp)) rfl rfl
  · rename_i ht; exact .plain (no ht (by simp)) (Ctx.readCell_leave ..) (Ctx.readCell_syscall ..)

/-- A data write of a byte. -/
theorem Ctx.write8_tracks (pl : Place) (v : Byte) (c : Ctx) : Tracks c (c.write8 pl v) [c.site .write pl] := by
  have no {t : Target} (ht : c.st.target .write pl = t) (hp : ∀ p, t ≠ .phys p) (n : BitVec 6) :
      ¬(c.site .write pl).atMega65 (0x640#12 + n.setWidth 12) := by
    rintro ⟨-, p, h, -⟩
    simp only [Site.phys, Ctx.site, ht] at h
    split at h
    · exact hp _ rfl
    all_goals cases h
  have hf : (c.write8 pl v).st.hyper = c.st.hyper := (Ctx.writeTarget_frame ..).hyper
  revert hf
  unfold Ctx.write8 Ctx.writeTarget
  split
  · rename_i p ht
    unfold Ctx.physWrite
    split
    · rename_i off hk
      unfold Ctx.ioWrite
      split
      · rename_i n hr
        have hat := Site.atMega65_iff ht hk
        unfold Ctx.virtWrite
        split
        · rename_i hh
          have hs : Lowest (fun n => c.st.syscall = some n ∨ (c.site .write pl).syscalls n) c.st.syscall :=
            (Lowest.some _).congr fun n => by simp [Site.syscalls, Ctx.site, hh]
          have hx : (c.site .write pl).exits ↔ n = hregExit := by
            simp only [Site.exits, show (0x67F#12 : BitVec 12) = 0x640#12 + (0x3F#6 : BitVec 6).setWidth 12 from rfl, hat,
              hr, IoReg.virt.injEq]
            simp [Ctx.site, hh, hregExit]
          dsimp only
          split
          · rename_i hn; exact .single (by simp [hx, hn]) hs
          · rename_i hn
            split <;> exact .single (by simp [hx, hn, Ctx.act]) hs
        · rename_i hh
          refine .single (by simp [Site.exits, Ctx.site, hh, Ctx.touch]) ?_
          simp only [Ctx.touch, Ctx.upd_st]
          refine (lowest_lowerSyscall n c.st.syscall).congr fun k => or_congr Iff.rfl ?_
          simp only [Site.syscalls, hat, hr, IoReg.virt.injEq]
          exact ⟨fun e => ⟨.inl rfl, Bool.eq_false_iff.2 hh, e.symm⟩, fun e => e.2.2.symm⟩
      all_goals
        rename_i hr
        refine .plain (fun n => by rw [Site.atMega65_iff ht hk, hr]; simp) ?_ ?_
        · first | rfl | simp [Ctx.colourWrite, Ctx.writeCell_leave]
        · first | rfl | simp [Ctx.colourWrite, Ctx.writeCell_syscall]
    · rename_i hk
      refine .plain (fun n => ?_) (Ctx.writeCell_leave ..) (Ctx.writeCell_syscall ..)
      rintro ⟨-, q, hq, hk'⟩
      simp only [Site.phys, Ctx.site, ht, Option.some.injEq] at hq
      exact hk _ (hq ▸ hk')
  · rename_i ht; exact .plain (no ht (by simp)) rfl rfl
  · rename_i ht; exact .plain (no ht (by simp)) rfl rfl
  · rename_i ht
    exact .plain (no ht (by simp)) (by simp [Ctx.colourWrite, Ctx.writeCell_leave])
      (by simp [Ctx.colourWrite, Ctx.writeCell_syscall])

/-! ### The shared operations -/

/-- An update that touches neither. -/
theorem Ctx.upd_tracks (f : State → State) (h : ∀ s, CpuOnly s (f s)) (c : Ctx) : Tracks c (c.upd f) [] :=
  .of_eq rfl (by rw [Ctx.upd_st, h]) (by rw [Ctx.upd_st, h])

/-- An update after tracked accesses. -/
theorem Tracks.upd {c c' : Ctx} {xs : List Site} (h : Tracks c c' xs) (f : State → State)
    (hf : ∀ s, CpuOnly s (f s)) : Tracks c (c'.upd f) xs := by
  have := h.trans (Ctx.upd_tracks f hf c')
  simpa using this

/-- Tracked accesses after an update. -/
theorem Tracks.after {c c' : Ctx} {xs : List Site} {f : State → State} (hf : ∀ s, CpuOnly s (f s))
    (h : Tracks (c.upd f) c' xs) : Tracks c c' xs :=
  (Ctx.upd_tracks f hf c).trans h

theorem Ctx.read16_tracks (pl : Place) (c : Ctx) : Tracks c (c.read16 pl).2 (c.reads16 pl) :=
  (c.read8_tracks pl).trans ((c.read8 pl).2.read8_tracks (pl.plus 1))

theorem Ctx.read32_tracks (pl : Place) (c : Ctx) : Tracks c (c.read32 pl).2 (c.reads32 pl) :=
  (((c.read8_tracks pl).trans (Ctx.read8_tracks (pl.plus 1) _)).trans (Ctx.read8_tracks (pl.plus 2) _)).trans
    (Ctx.read8_tracks (pl.plus 3) _)

theorem Ctx.write16_tracks (pl : Place) (v : Word) (c : Ctx) : Tracks c (c.write16 pl v) (c.writes16 pl v) :=
  (c.write8_tracks pl _).trans (Ctx.write8_tracks (pl.plus 1) _ _)

theorem Ctx.write32_tracks (pl : Place) (v : Quad) (c : Ctx) : Tracks c (c.write32 pl v) (c.writes32 pl v) :=
  (((c.write8_tracks pl _).trans (Ctx.write8_tracks (pl.plus 1) _ _)).trans (Ctx.write8_tracks (pl.plus 2) _ _)).trans
    (Ctx.write8_tracks (pl.plus 3) _ _)

theorem Ctx.push8_tracks (v : Byte) (c : Ctx) : Tracks c (c.push8 v) c.pushes8 :=
  (c.write8_tracks _ v).upd _ fun s => .moveSp s _

theorem Ctx.push16_tracks (w : Word) (c : Ctx) : Tracks c (c.push16 w) (c.pushes16 w) :=
  (c.push8_tracks _).trans (Ctx.push8_tracks _ _)

theorem Ctx.pull8_tracks (c : Ctx) : Tracks c c.pull8.2 c.pulls8 :=
  .after (fun s => .moveSp s 0x0001#16) (Ctx.read8_tracks _ _)

theorem Ctx.pull16_tracks (c : Ctx) : Tracks c c.pull16.2 c.pulls16 := c.pull8_tracks.trans c.pull8.2.pull8_tracks

theorem Ctx.pointer16_tracks (nn : Byte) (c : Ctx) : Tracks c (c.pointer16 nn).2 (c.pointers16 nn) :=
  (c.read8_tracks _).trans (Ctx.read8_tracks _ _)

theorem Ctx.pointer32_tracks (nn : Byte) (c : Ctx) : Tracks c (c.pointer32 nn).2 (c.pointers32 nn) :=
  (((c.read8_tracks _).trans (Ctx.read8_tracks _ _)).trans (Ctx.read8_tracks _ _)).trans (Ctx.read8_tracks _ _)

theorem Ctx.ea_tracks (m : MemMode) (c : Ctx) : Tracks c (c.ea m).2 (c.eaSites m) := by
  cases m
  case bpXInd | bpIndY | bpIndZ | bpInd => exact Ctx.pointer16_tracks ..
  case farZ | far => exact Ctx.pointer32_tracks ..
  case spIndY => exact Ctx.read16_tracks ..
  all_goals exact .refl c

theorem Ctx.operand_tracks (src : Source) (c : Ctx) : Tracks c (c.operand src).2 (c.operandSites src) := by
  cases src
  · exact .refl c
  · exact (c.ea_tracks _).trans (Ctx.read8_tracks _ _)

theorem Ctx.quad_tracks (m : MemMode) (c : Ctx) : Tracks c ((c.ea m).2.read32 (c.ea m).1).2 (c.quadSites m) :=
  (c.ea_tracks m).trans (Ctx.read32_tracks _ _)

theorem Ctx.jumpTarget_tracks (t : JumpTarget) (c : Ctx) : Tracks c (c.jumpTarget t).2 (c.jumpSites t) := by
  cases t
  · exact .refl c
  all_goals exact Ctx.read16_tracks ..

theorem Ctx.writeBack_tracks (always : Bool) (pl : Place) (v : Byte) (c : Ctx) :
    Tracks c (c.writeBack always pl v) (c.writeBackSites always pl) := by
  unfold Ctx.writeBack Ctx.writeBackSites
  split
  · exact c.write8_tracks pl v
  · exact .refl c

theorem Ctx.interrupt_tracks (vector ret : Word) (brk : Bool) (c : Ctx) :
    Tracks c (c.interrupt vector ret brk) (c.interruptSites vector ret brk) :=
  (((c.push16_tracks ret).trans (Ctx.push8_tracks _ _)).trans
    (.after (f := fun s => { s with fl := { s.fl with i := true, d := if s.cfg.intClearsD then false else s.fl.d } })
      (fun _ => rfl) (Ctx.read16_tracks _ _))).upd (fun s => { s with pc := _ }) fun _ => rfl

theorem Ctx.start_tracks {len : Nat} {s : State} {c : Ctx} {xs : List Site} (h : Tracks (Ctx.start len s) c xs) :
    Tracks (Ctx.of s) c xs := .after (f := fun s => s.advance len) (fun _ => rfl) h

/-! ### Instructions -/

/-- An instruction, if it completes, has made the accesses of `xs`. -/
def Tracked (s : State) (r : Result) (xs : List Site) : Prop :=
  ∀ t, r = .next t → ∃ c, Tracks (Ctx.of s) c xs ∧ t = c.finish

theorem Tracked.done {s : State} {len : Nat} {c : Ctx} {xs ys : List Site} (h : Tracks (Ctx.start len s) c xs)
    (e : xs = ys := by rfl) : Tracked s c.done ys := by
  subst e
  intro t ht
  simp only [Ctx.done, Host.Outcome.next.injEq] at ht
  exact ⟨c, Ctx.start_tracks h, ht.symm⟩

theorem Tracked.rmw8 (always : Bool) (f : State → Byte → Byte × Flags)
    (m : MemMode) (len : Nat) (s : State) : Tracked s (s.rmw8 always f m len) (s.rmw8Sites always f m len) :=
  .done ((((Ctx.ea_tracks m _).trans (Ctx.read8_tracks _ _)).trans (Ctx.writeBack_tracks _ _ _ _)).trans
    (.after (f := fun s => { s with fl := _ }) (by intro _; rfl) (Ctx.write8_tracks _ _ _)))

/-- Every form's instruction, if it completes, has made the accesses of its sites. -/
theorem Form.run_tracks (f : Form) (s : State) : Tracked s (f.run s) (f.sites s) := by
  cases f with
  | load r src len => exact .done ((Ctx.operand_tracks src _).upd _ fun s => .setRegNZ s _ _)
  | store r m len => exact .done ((Ctx.ea_tracks m _).trans (Ctx.write8_tracks _ _ _))
  | transferNZ dst src len => exact .done ((Tracks.refl _).upd _ fun s => .setRegNZ s _ _)
  | transfer dst src len => exact .done ((Tracks.refl _).upd _ fun s => .setReg s _ _)
  | push r len => exact .done (Ctx.push8_tracks _ _)
  | pushFlags len => exact .done (Ctx.push8_tracks _ _)
  | pushWord w len => exact .done (Ctx.push16_tracks _ _)
  | pushWordAt a len => exact .done ((Ctx.read16_tracks _ _).trans (Ctx.push16_tracks _ _))
  | pull r len => exact .done ((Ctx.pull8_tracks _).upd _ fun s => .setRegNZ s _ _)
  | pullFlags len => exact .done ((Ctx.pull8_tracks _).upd _ (by intro _; rfl))
  | alu op src len => exact .done ((Ctx.operand_tracks src _).upd _ fun s => .run8 op s _)
  | compare r src len => exact .done ((Ctx.operand_tracks src _).upd _ (by intro _; rfl))
  | bit m len =>
    exact .done ((Ctx.operand_tracks (.mem m) _).upd (fun s => { s with fl := s.fl.bitTest s.a _ }) fun _ => rfl)
  | bitImm v len => exact .done ((Tracks.refl _).upd _ (by intro _; rfl))
  | negate len => exact .done ((Tracks.refl _).upd _ fun s => .setRegNZ s _ _)
  | loadQ m len => exact .done ((Ctx.quad_tracks m _).upd _ (by intro _; rfl))
  | storeQ m len => exact .done ((Ctx.ea_tracks m _).trans (Ctx.write32_tracks _ _ _))
  | aluQ op m len =>
    show Tracked s (s.aluQ op m len) _
    unfold State.aluQ
    split
    · exact fun t ht => by cases ht
    · exact .done ((Ctx.quad_tracks m _).upd _ fun s => .run32 op s _)
  | compareQ m len => exact .done ((Ctx.quad_tracks m _).upd _ (by intro _; rfl))
  | bitQ m len => exact .done ((Ctx.quad_tracks m _).upd _ (by intro _; rfl))
  | changeReg ch r len => exact .done ((Tracks.refl _).upd _ fun s => .setRegFlags s _ _ _)
  | changeMem ch m len => exact Tracked.rmw8 ch.always (fun s v => ch.apply s.fl v) m len s
  | bitMem op m len => exact Tracked.rmw8 false (fun s v => op.apply s.a s.fl v) m len s
  | changeWord ch m len =>
    let c1 := (Ctx.start len s).ea m
    let c2 := c1.2.read16 c1.1
    let c3 := c2.2.writeBack false c1.1 (c2.1.extractLsb' 0 8)
    have h1 : Tracks (Ctx.start len s) c1.2 _ := Ctx.ea_tracks m _
    have h2 : Tracks c1.2 c2.2 _ := Ctx.read16_tracks _ _
    have h3 : Tracks c2.2 c3 _ := Ctx.writeBack_tracks _ _ _ _
    have h4 : Tracks c3 ((c3.upd fun s => { s with fl := (ch.apply c3.st.fl c2.1).2 }).write16 c1.1
      (ch.apply c3.st.fl c2.1).1) _ := .after (by intro _; rfl) (Ctx.write16_tracks _ _ _)
    exact .done (((h1.trans h2).trans h3).trans h4)
  | changeQ ch len => exact .done ((Tracks.refl _).upd _ (by intro _; rfl))
  | changeMemQ ch m len =>
    exact .done ((Ctx.quad_tracks m _).trans
      (.after (f := fun s => { s with fl := _ }) (by intro _; rfl) (Ctx.write32_tracks _ _ _)))
  | branch k d len => exact .done ((Tracks.refl _).upd _ fun s => .gotoIf s _ _)
  | branchWord k d len => exact .done ((Tracks.refl _).upd _ fun s => .gotoIf s _ _)
  | branchSub d len => exact .done ((Ctx.push16_tracks _ _).upd _ (by intro _; rfl))
  | branchBit on n nn d len =>
    exact .done ((Ctx.operand_tracks (.mem (.bp nn)) _).upd
      (fun s => if _ == on then s.goto (shortTarget s.pc d) else s) fun s => .gotoIf s _ _)
  | jump t len => exact .done ((Ctx.jumpTarget_tracks t _).upd _ (by intro _; rfl))
  | call t len =>
    exact .done (((Ctx.push16_tracks _ _).trans (Ctx.jumpTarget_tracks t _)).upd _ (by intro _; rfl))
  | ret n len => exact .done ((Ctx.pull16_tracks _).upd _ fun s => .gotoMoveSp s _ _)
  | retInterrupt len =>
    exact .done (((Ctx.pull8_tracks _).trans
      (.after (f := fun s => { s with fl := _ }) (by intro _; rfl) (Ctx.pull16_tracks _))).upd _ (by intro _; rfl))
  | brk len => exact .done (Ctx.interrupt_tracks _ _ _ _)
  | flag op len => exact .done ((Tracks.refl _).upd _ (by intro _; rfl))
  | loadMap len => exact .done ((Tracks.refl _).upd _ (by intro _; rfl))
  | endMap len => exact .done ((Tracks.refl _).upd _ (by intro _; rfl))
  | reserved len => exact fun t ht => by cases ht

/-- An instruction that completes has made the accesses of its sites. -/
theorem exec_tracks (i : Instr) (s : State) : Tracked s (exec i s) ((formOf i).sites s) :=
  exec_form i s ▸ Form.run_tracks _ s

end Sys2Proof.Machine
end

