-- ==== Sys2Proof/Tests/Slice0.lean ====
section
/-! SUPPORT. Tests: ill-formed terms, decoded words, one-step vectors of `spec/95_test_vectors.md` (the file's own ids),
and for every statement with hypotheses a witness that meets them all. Expected values come from the spec. -/

noncomputable section

namespace Sys2Proof.Tests

open Sys2Proof.Machine

/-! ### Well-formedness: each check refuses an ill-formed term -/

/-- NEG before `42` would be read as the Q prefix (R114). -/
theorem test_wf_neg_before_neg : (Instr.neg).wf [0x42#8] = false := by decide

/-- NEG before any other byte is itself (R262). -/
theorem test_wf_neg_before_lda : (Instr.neg).wf [0xA9#8] = true := by decide

/-- EOM before a far opcode would be read as the far prefix (R116). -/
theorem test_wf_eom_before_far : farOpcodes.all (fun b => !(Instr.eom).wf [b]) = true := by decide

/-- EOM before any other byte is itself (R261). -/
theorem test_wf_eom_before_lda : (Instr.eom).wf [0xA9#8] = true := by decide

/-! ### Every constructor's decoding, by bytes written from the encodings of `spec/opcode_table.json` -/

/-- Every byte sequence decodes, before bytes of zero, to the instruction beside it. -/
abbrev ReadAs (rows : List (List Byte × Instr)) : Prop :=
  ∀ r ∈ rows, (decode (r.1 ++ [0x00#8, 0x00#8])).toOption = some (r.2, [0x00#8, 0x00#8])

/-- The base opcodes $00 to $0F, the operand bytes `34 12`. -/
theorem test_decode_base_0x : ReadAs [
    ([0x00#8, 0x34#8], .brk 0x34#8),
    ([0x01#8, 0x34#8], .oraBpXInd 0x34#8),
    ([0x02#8], .cle),
    ([0x03#8], .see),
    ([0x04#8, 0x34#8], .tsbBp 0x34#8),
    ([0x05#8, 0x34#8], .oraBp 0x34#8),
    ([0x06#8, 0x34#8], .aslBp 0x34#8),
    ([0x07#8, 0x34#8], .rmb0 0x34#8),
    ([0x08#8], .php),
    ([0x09#8, 0x34#8], .oraImm 0x34#8),
    ([0x0A#8], .aslA),
    ([0x0B#8], .tsy),
    ([0x0C#8, 0x34#8, 0x12#8], .tsbAbs 0x1234#16),
    ([0x0D#8, 0x34#8, 0x12#8], .oraAbs 0x1234#16),
    ([0x0E#8, 0x34#8, 0x12#8], .aslAbs 0x1234#16),
    ([0x0F#8, 0x34#8, 0x12#8], .bbr0 0x34#8 0x12#8)] := by decide

/-- The base opcodes $10 to $1F, the operand bytes `34 12`. -/
theorem test_decode_base_1x : ReadAs [
    ([0x10#8, 0x34#8], .bplRel 0x34#8),
    ([0x11#8, 0x34#8], .oraBpIndY 0x34#8),
    ([0x12#8, 0x34#8], .oraBpIndZ 0x34#8),
    ([0x13#8, 0x34#8, 0x12#8], .bplRelW 0x1234#16),
    ([0x14#8, 0x34#8], .trbBp 0x34#8),
    ([0x15#8, 0x34#8], .oraBpX 0x34#8),
    ([0x16#8, 0x34#8], .aslBpX 0x34#8),
    ([0x17#8, 0x34#8], .rmb1 0x34#8),
    ([0x18#8], .clc),
    ([0x19#8, 0x34#8, 0x12#8], .oraAbsY 0x1234#16),
    ([0x1A#8], .incA),
    ([0x1B#8], .inz),
    ([0x1C#8, 0x34#8, 0x12#8], .trbAbs 0x1234#16),
    ([0x1D#8, 0x34#8, 0x12#8], .oraAbsX 0x1234#16),
    ([0x1E#8, 0x34#8, 0x12#8], .aslAbsX 0x1234#16),
    ([0x1F#8, 0x34#8, 0x12#8], .bbr1 0x34#8 0x12#8)] := by decide

/-- The base opcodes $20 to $2F, the operand bytes `34 12`. -/
theorem test_decode_base_2x : ReadAs [
    ([0x20#8, 0x34#8, 0x12#8], .jsrAbs 0x1234#16),
    ([0x21#8, 0x34#8], .andBpXInd 0x34#8),
    ([0x22#8, 0x34#8, 0x12#8], .jsrInd 0x1234#16),
    ([0x23#8, 0x34#8, 0x12#8], .jsrIndX 0x1234#16),
    ([0x24#8, 0x34#8], .bitBp 0x34#8),
    ([0x25#8, 0x34#8], .andBp 0x34#8),
    ([0x26#8, 0x34#8], .rolBp 0x34#8),
    ([0x27#8, 0x34#8], .rmb2 0x34#8),
    ([0x28#8], .plp),
    ([0x29#8, 0x34#8], .andImm 0x34#8),
    ([0x2A#8], .rolA),
    ([0x2B#8], .tys),
    ([0x2C#8, 0x34#8, 0x12#8], .bitAbs 0x1234#16),
    ([0x2D#8, 0x34#8, 0x12#8], .andAbs 0x1234#16),
    ([0x2E#8, 0x34#8, 0x12#8], .rolAbs 0x1234#16),
    ([0x2F#8, 0x34#8, 0x12#8], .bbr2 0x34#8 0x12#8)] := by decide

/-- The base opcodes $30 to $3F, the operand bytes `34 12`. -/
theorem test_decode_base_3x : ReadAs [
    ([0x30#8, 0x34#8], .bmiRel 0x34#8),
    ([0x31#8, 0x34#8], .andBpIndY 0x34#8),
    ([0x32#8, 0x34#8], .andBpIndZ 0x34#8),
    ([0x33#8, 0x34#8, 0x12#8], .bmiRelW 0x1234#16),
    ([0x34#8, 0x34#8], .bitBpX 0x34#8),
    ([0x35#8, 0x34#8], .andBpX 0x34#8),
    ([0x36#8, 0x34#8], .rolBpX 0x34#8),
    ([0x37#8, 0x34#8], .rmb3 0x34#8),
    ([0x38#8], .sec),
    ([0x39#8, 0x34#8, 0x12#8], .andAbsY 0x1234#16),
    ([0x3A#8], .decA),
    ([0x3B#8], .dez),
    ([0x3C#8, 0x34#8, 0x12#8], .bitAbsX 0x1234#16),
    ([0x3D#8, 0x34#8, 0x12#8], .andAbsX 0x1234#16),
    ([0x3E#8, 0x34#8, 0x12#8], .rolAbsX 0x1234#16),
    ([0x3F#8, 0x34#8, 0x12#8], .bbr3 0x34#8 0x12#8)] := by decide

/-- The base opcodes $40 to $4F, the operand bytes `34 12`. -/
theorem test_decode_base_4x : ReadAs [
    ([0x40#8], .rti),
    ([0x41#8, 0x34#8], .eorBpXInd 0x34#8),
    ([0x42#8], .neg),
    ([0x43#8], .asrA),
    ([0x44#8, 0x34#8], .asrBp 0x34#8),
    ([0x45#8, 0x34#8], .eorBp 0x34#8),
    ([0x46#8, 0x34#8], .lsrBp 0x34#8),
    ([0x47#8, 0x34#8], .rmb4 0x34#8),
    ([0x48#8], .pha),
    ([0x49#8, 0x34#8], .eorImm 0x34#8),
    ([0x4A#8], .lsrA),
    ([0x4B#8], .taz),
    ([0x4C#8, 0x34#8, 0x12#8], .jmpAbs 0x1234#16),
    ([0x4D#8, 0x34#8, 0x12#8], .eorAbs 0x1234#16),
    ([0x4E#8, 0x34#8, 0x12#8], .lsrAbs 0x1234#16),
    ([0x4F#8, 0x34#8, 0x12#8], .bbr4 0x34#8 0x12#8)] := by decide

/-- The base opcodes $50 to $5F, the operand bytes `34 12`. -/
theorem test_decode_base_5x : ReadAs [
    ([0x50#8, 0x34#8], .bvcRel 0x34#8),
    ([0x51#8, 0x34#8], .eorBpIndY 0x34#8),
    ([0x52#8, 0x34#8], .eorBpIndZ 0x34#8),
    ([0x53#8, 0x34#8, 0x12#8], .bvcRelW 0x1234#16),
    ([0x54#8, 0x34#8], .asrBpX 0x34#8),
    ([0x55#8, 0x34#8], .eorBpX 0x34#8),
    ([0x56#8, 0x34#8], .lsrBpX 0x34#8),
    ([0x57#8, 0x34#8], .rmb5 0x34#8),
    ([0x58#8], .cli),
    ([0x59#8, 0x34#8, 0x12#8], .eorAbsY 0x1234#16),
    ([0x5A#8], .phy),
    ([0x5B#8], .tab),
    ([0x5C#8], .map),
    ([0x5D#8, 0x34#8, 0x12#8], .eorAbsX 0x1234#16),
    ([0x5E#8, 0x34#8, 0x12#8], .lsrAbsX 0x1234#16),
    ([0x5F#8, 0x34#8, 0x12#8], .bbr5 0x34#8 0x12#8)] := by decide

/-- The base opcodes $60 to $6F, the operand bytes `34 12`. -/
theorem test_decode_base_6x : ReadAs [
    ([0x60#8], .rts),
    ([0x61#8, 0x34#8], .adcBpXInd 0x34#8),
    ([0x62#8, 0x34#8], .rtsImm 0x34#8),
    ([0x63#8, 0x34#8, 0x12#8], .bsrRelW 0x1234#16),
    ([0x64#8, 0x34#8], .stzBp 0x34#8),
    ([0x65#8, 0x34#8], .adcBp 0x34#8),
    ([0x66#8, 0x34#8], .rorBp 0x34#8),
    ([0x67#8, 0x34#8], .rmb6 0x34#8),
    ([0x68#8], .pla),
    ([0x69#8, 0x34#8], .adcImm 0x34#8),
    ([0x6A#8], .rorA),
    ([0x6B#8], .tza),
    ([0x6C#8, 0x34#8, 0x12#8], .jmpInd 0x1234#16),
    ([0x6D#8, 0x34#8, 0x12#8], .adcAbs 0x1234#16),
    ([0x6E#8, 0x34#8, 0x12#8], .rorAbs 0x1234#16),
    ([0x6F#8, 0x34#8, 0x12#8], .bbr6 0x34#8 0x12#8)] := by decide

/-- The base opcodes $70 to $7F, the operand bytes `34 12`. -/
theorem test_decode_base_7x : ReadAs [
    ([0x70#8, 0x34#8], .bvsRel 0x34#8),
    ([0x71#8, 0x34#8], .adcBpIndY 0x34#8),
    ([0x72#8, 0x34#8], .adcBpIndZ 0x34#8),
    ([0x73#8, 0x34#8, 0x12#8], .bvsRelW 0x1234#16),
    ([0x74#8, 0x34#8], .stzBpX 0x34#8),
    ([0x75#8, 0x34#8], .adcBpX 0x34#8),
    ([0x76#8, 0x34#8], .rorBpX 0x34#8),
    ([0x77#8, 0x34#8], .rmb7 0x34#8),
    ([0x78#8], .sei),
    ([0x79#8, 0x34#8, 0x12#8], .adcAbsY 0x1234#16),
    ([0x7A#8], .ply),
    ([0x7B#8], .tba),
    ([0x7C#8, 0x34#8, 0x12#8], .jmpIndX 0x1234#16),
    ([0x7D#8, 0x34#8, 0x12#8], .adcAbsX 0x1234#16),
    ([0x7E#8, 0x34#8, 0x12#8], .rorAbsX 0x1234#16),
    ([0x7F#8, 0x34#8, 0x12#8], .bbr7 0x34#8 0x12#8)] := by decide

/-- The base opcodes $80 to $8F, the operand bytes `34 12`. -/
theorem test_decode_base_8x : ReadAs [
    ([0x80#8, 0x34#8], .braRel 0x34#8),
    ([0x81#8, 0x34#8], .staBpXInd 0x34#8),
    ([0x82#8, 0x34#8], .staSpIndY 0x34#8),
    ([0x83#8, 0x34#8, 0x12#8], .braRelW 0x1234#16),
    ([0x84#8, 0x34#8], .styBp 0x34#8),
    ([0x85#8, 0x34#8], .staBp 0x34#8),
    ([0x86#8, 0x34#8], .stxBp 0x34#8),
    ([0x87#8, 0x34#8], .smb0 0x34#8),
    ([0x88#8], .dey),
    ([0x89#8, 0x34#8], .bitImm 0x34#8),
    ([0x8A#8], .txa),
    ([0x8B#8, 0x34#8, 0x12#8], .styAbsX 0x1234#16),
    ([0x8C#8, 0x34#8, 0x12#8], .styAbs 0x1234#16),
    ([0x8D#8, 0x34#8, 0x12#8], .staAbs 0x1234#16),
    ([0x8E#8, 0x34#8, 0x12#8], .stxAbs 0x1234#16),
    ([0x8F#8, 0x34#8, 0x12#8], .bbs0 0x34#8 0x12#8)] := by decide

/-- The base opcodes $90 to $9F, the operand bytes `34 12`. -/
theorem test_decode_base_9x : ReadAs [
    ([0x90#8, 0x34#8], .bccRel 0x34#8),
    ([0x91#8, 0x34#8], .staBpIndY 0x34#8),
    ([0x92#8, 0x34#8], .staBpIndZ 0x34#8),
    ([0x93#8, 0x34#8, 0x12#8], .bccRelW 0x1234#16),
    ([0x94#8, 0x34#8], .styBpX 0x34#8),
    ([0x95#8, 0x34#8], .staBpX 0x34#8),
    ([0x96#8, 0x34#8], .stxBpY 0x34#8),
    ([0x97#8, 0x34#8], .smb1 0x34#8),
    ([0x98#8], .tya),
    ([0x99#8, 0x34#8, 0x12#8], .staAbsY 0x1234#16),
    ([0x9A#8], .txs),
    ([0x9B#8, 0x34#8, 0x12#8], .stxAbsY 0x1234#16),
    ([0x9C#8, 0x34#8, 0x12#8], .stzAbs 0x1234#16),
    ([0x9D#8, 0x34#8, 0x12#8], .staAbsX 0x1234#16),
    ([0x9E#8, 0x34#8, 0x12#8], .stzAbsX 0x1234#16),
    ([0x9F#8, 0x34#8, 0x12#8], .bbs1 0x34#8 0x12#8)] := by decide

/-- The base opcodes $A0 to $AF, the operand bytes `34 12`. -/
theorem test_decode_base_ax : ReadAs [
    ([0xA0#8, 0x34#8], .ldyImm 0x34#8),
    ([0xA1#8, 0x34#8], .ldaBpXInd 0x34#8),
    ([0xA2#8, 0x34#8], .ldxImm 0x34#8),
    ([0xA3#8, 0x34#8], .ldzImm 0x34#8),
    ([0xA4#8, 0x34#8], .ldyBp 0x34#8),
    ([0xA5#8, 0x34#8], .ldaBp 0x34#8),
    ([0xA6#8, 0x34#8], .ldxBp 0x34#8),
    ([0xA7#8, 0x34#8], .smb2 0x34#8),
    ([0xA8#8], .tay),
    ([0xA9#8, 0x34#8], .ldaImm 0x34#8),
    ([0xAA#8], .tax),
    ([0xAB#8, 0x34#8, 0x12#8], .ldzAbs 0x1234#16),
    ([0xAC#8, 0x34#8, 0x12#8], .ldyAbs 0x1234#16),
    ([0xAD#8, 0x34#8, 0x12#8], .ldaAbs 0x1234#16),
    ([0xAE#8, 0x34#8, 0x12#8], .ldxAbs 0x1234#16),
    ([0xAF#8, 0x34#8, 0x12#8], .bbs2 0x34#8 0x12#8)] := by decide

/-- The base opcodes $B0 to $BF, the operand bytes `34 12`. -/
theorem test_decode_base_bx : ReadAs [
    ([0xB0#8, 0x34#8], .bcsRel 0x34#8),
    ([0xB1#8, 0x34#8], .ldaBpIndY 0x34#8),
    ([0xB2#8, 0x34#8], .ldaBpIndZ 0x34#8),
    ([0xB3#8, 0x34#8, 0x12#8], .bcsRelW 0x1234#16),
    ([0xB4#8, 0x34#8], .ldyBpX 0x34#8),
    ([0xB5#8, 0x34#8], .ldaBpX 0x34#8),
    ([0xB6#8, 0x34#8], .ldxBpY 0x34#8),
    ([0xB7#8, 0x34#8], .smb3 0x34#8),
    ([0xB8#8], .clv),
    ([0xB9#8, 0x34#8, 0x12#8], .ldaAbsY 0x1234#16),
    ([0xBA#8], .tsx),
    ([0xBB#8, 0x34#8, 0x12#8], .ldzAbsX 0x1234#16),
    ([0xBC#8, 0x34#8, 0x12#8], .ldyAbsX 0x1234#16),
    ([0xBD#8, 0x34#8, 0x12#8], .ldaAbsX 0x1234#16),
    ([0xBE#8, 0x34#8, 0x12#8], .ldxAbsY 0x1234#16),
    ([0xBF#8, 0x34#8, 0x12#8], .bbs3 0x34#8 0x12#8)] := by decide

/-- The base opcodes $C0 to $CF, the operand bytes `34 12`. -/
theorem test_decode_base_cx : ReadAs [
    ([0xC0#8, 0x34#8], .cpyImm 0x34#8),
    ([0xC1#8, 0x34#8], .cmpBpXInd 0x34#8),
    ([0xC2#8, 0x34#8], .cpzImm 0x34#8),
    ([0xC3#8, 0x34#8], .dewBp 0x34#8),
    ([0xC4#8, 0x34#8], .cpyBp 0x34#8),
    ([0xC5#8, 0x34#8], .cmpBp 0x34#8),
    ([0xC6#8, 0x34#8], .decBp 0x34#8),
    ([0xC7#8, 0x34#8], .smb4 0x34#8),
    ([0xC8#8], .iny),
    ([0xC9#8, 0x34#8], .cmpImm 0x34#8),
    ([0xCA#8], .dex),
    ([0xCB#8, 0x34#8, 0x12#8], .aswAbs 0x1234#16),
    ([0xCC#8, 0x34#8, 0x12#8], .cpyAbs 0x1234#16),
    ([0xCD#8, 0x34#8, 0x12#8], .cmpAbs 0x1234#16),
    ([0xCE#8, 0x34#8, 0x12#8], .decAbs 0x1234#16),
    ([0xCF#8, 0x34#8, 0x12#8], .bbs4 0x34#8 0x12#8)] := by decide

/-- The base opcodes $D0 to $DF, the operand bytes `34 12`. -/
theorem test_decode_base_dx : ReadAs [
    ([0xD0#8, 0x34#8], .bneRel 0x34#8),
    ([0xD1#8, 0x34#8], .cmpBpIndY 0x34#8),
    ([0xD2#8, 0x34#8], .cmpBpIndZ 0x34#8),
    ([0xD3#8, 0x34#8, 0x12#8], .bneRelW 0x1234#16),
    ([0xD4#8, 0x34#8], .cpzBp 0x34#8),
    ([0xD5#8, 0x34#8], .cmpBpX 0x34#8),
    ([0xD6#8, 0x34#8], .decBpX 0x34#8),
    ([0xD7#8, 0x34#8], .smb5 0x34#8),
    ([0xD8#8], .cld),
    ([0xD9#8, 0x34#8, 0x12#8], .cmpAbsY 0x1234#16),
    ([0xDA#8], .phx),
    ([0xDB#8], .phz),
    ([0xDC#8, 0x34#8, 0x12#8], .cpzAbs 0x1234#16),
    ([0xDD#8, 0x34#8, 0x12#8], .cmpAbsX 0x1234#16),
    ([0xDE#8, 0x34#8, 0x12#8], .decAbsX 0x1234#16),
    ([0xDF#8, 0x34#8, 0x12#8], .bbs5 0x34#8 0x12#8)] := by decide

/-- The base opcodes $E0 to $EF, the operand bytes `34 12`. -/
theorem test_decode_base_ex : ReadAs [
    ([0xE0#8, 0x34#8], .cpxImm 0x34#8),
    ([0xE1#8, 0x34#8], .sbcBpXInd 0x34#8),
    ([0xE2#8, 0x34#8], .ldaSpIndY 0x34#8),
    ([0xE3#8, 0x34#8], .inwBp 0x34#8),
    ([0xE4#8, 0x34#8], .cpxBp 0x34#8),
    ([0xE5#8, 0x34#8], .sbcBp 0x34#8),
    ([0xE6#8, 0x34#8], .incBp 0x34#8),
    ([0xE7#8, 0x34#8], .smb6 0x34#8),
    ([0xE8#8], .inx),
    ([0xE9#8, 0x34#8], .sbcImm 0x34#8),
    ([0xEA#8], .eom),
    ([0xEB#8, 0x34#8, 0x12#8], .rowAbs 0x1234#16),
    ([0xEC#8, 0x34#8, 0x12#8], .cpxAbs 0x1234#16),
    ([0xED#8, 0x34#8, 0x12#8], .sbcAbs 0x1234#16),
    ([0xEE#8, 0x34#8, 0x12#8], .incAbs 0x1234#16),
    ([0xEF#8, 0x34#8, 0x12#8], .bbs6 0x34#8 0x12#8)] := by decide

/-- The base opcodes $F0 to $FF, the operand bytes `34 12`. -/
theorem test_decode_base_fx : ReadAs [
    ([0xF0#8, 0x34#8], .beqRel 0x34#8),
    ([0xF1#8, 0x34#8], .sbcBpIndY 0x34#8),
    ([0xF2#8, 0x34#8], .sbcBpIndZ 0x34#8),
    ([0xF3#8, 0x34#8, 0x12#8], .beqRelW 0x1234#16),
    ([0xF4#8, 0x34#8, 0x12#8], .phwImmW 0x1234#16),
    ([0xF5#8, 0x34#8], .sbcBpX 0x34#8),
    ([0xF6#8, 0x34#8], .incBpX 0x34#8),
    ([0xF7#8, 0x34#8], .smb7 0x34#8),
    ([0xF8#8], .sed),
    ([0xF9#8, 0x34#8, 0x12#8], .sbcAbsY 0x1234#16),
    ([0xFA#8], .plx),
    ([0xFB#8], .plz),
    ([0xFC#8, 0x34#8, 0x12#8], .phwAbs 0x1234#16),
    ([0xFD#8, 0x34#8, 0x12#8], .sbcAbsX 0x1234#16),
    ([0xFE#8, 0x34#8, 0x12#8], .incAbsX 0x1234#16),
    ([0xFF#8, 0x34#8, 0x12#8], .bbs7 0x34#8 0x12#8)] := by decide

/-- The far opcodes. -/
theorem test_decode_far : ReadAs [
    ([0xEA#8, 0x12#8, 0x34#8], .oraFarZ 0x34#8),
    ([0xEA#8, 0x32#8, 0x34#8], .andFarZ 0x34#8),
    ([0xEA#8, 0x52#8, 0x34#8], .eorFarZ 0x34#8),
    ([0xEA#8, 0x72#8, 0x34#8], .adcFarZ 0x34#8),
    ([0xEA#8, 0x92#8, 0x34#8], .staFarZ 0x34#8),
    ([0xEA#8, 0xB2#8, 0x34#8], .ldaFarZ 0x34#8),
    ([0xEA#8, 0xD2#8, 0x34#8], .cmpFarZ 0x34#8),
    ([0xEA#8, 0xF2#8, 0x34#8], .sbcFarZ 0x34#8)] := by decide

/-- The Q opcodes. -/
theorem test_decode_q_0 : ReadAs [
    ([0x42#8, 0x42#8, 0xA5#8, 0x34#8], .ldqBp 0x34#8),
    ([0x42#8, 0x42#8, 0xAD#8, 0x34#8, 0x12#8], .ldqAbs 0x1234#16),
    ([0x42#8, 0x42#8, 0xB2#8, 0x34#8], .ldqBpIndZ 0x34#8),
    ([0x42#8, 0x42#8, 0x85#8, 0x34#8], .stqBp 0x34#8),
    ([0x42#8, 0x42#8, 0x8D#8, 0x34#8, 0x12#8], .stqAbs 0x1234#16),
    ([0x42#8, 0x42#8, 0x92#8, 0x34#8], .stqBpInd 0x34#8),
    ([0x42#8, 0x42#8, 0x65#8, 0x34#8], .adcqBp 0x34#8),
    ([0x42#8, 0x42#8, 0x6D#8, 0x34#8, 0x12#8], .adcqAbs 0x1234#16),
    ([0x42#8, 0x42#8, 0x72#8, 0x34#8], .adcqBpInd 0x34#8),
    ([0x42#8, 0x42#8, 0xE5#8, 0x34#8], .sbcqBp 0x34#8),
    ([0x42#8, 0x42#8, 0xED#8, 0x34#8, 0x12#8], .sbcqAbs 0x1234#16),
    ([0x42#8, 0x42#8, 0xF2#8, 0x34#8], .sbcqBpInd 0x34#8),
    ([0x42#8, 0x42#8, 0xC5#8, 0x34#8], .cmpqBp 0x34#8),
    ([0x42#8, 0x42#8, 0xCD#8, 0x34#8, 0x12#8], .cmpqAbs 0x1234#16),
    ([0x42#8, 0x42#8, 0xD2#8, 0x34#8], .cmpqBpInd 0x34#8)] := by decide

/-- The Q opcodes. -/
theorem test_decode_q_1 : ReadAs [
    ([0x42#8, 0x42#8, 0x25#8, 0x34#8], .andqBp 0x34#8),
    ([0x42#8, 0x42#8, 0x2D#8, 0x34#8, 0x12#8], .andqAbs 0x1234#16),
    ([0x42#8, 0x42#8, 0x32#8, 0x34#8], .andqBpInd 0x34#8),
    ([0x42#8, 0x42#8, 0x05#8, 0x34#8], .orqBp 0x34#8),
    ([0x42#8, 0x42#8, 0x0D#8, 0x34#8, 0x12#8], .orqAbs 0x1234#16),
    ([0x42#8, 0x42#8, 0x12#8, 0x34#8], .orqBpInd 0x34#8),
    ([0x42#8, 0x42#8, 0x45#8, 0x34#8], .eorqBp 0x34#8),
    ([0x42#8, 0x42#8, 0x4D#8, 0x34#8, 0x12#8], .eorqAbs 0x1234#16),
    ([0x42#8, 0x42#8, 0x52#8, 0x34#8], .eorqBpInd 0x34#8),
    ([0x42#8, 0x42#8, 0x24#8, 0x34#8], .bitqBp 0x34#8),
    ([0x42#8, 0x42#8, 0x2C#8, 0x34#8, 0x12#8], .bitqAbs 0x1234#16),
    ([0x42#8, 0x42#8, 0x0A#8], .aslqQ),
    ([0x42#8, 0x42#8, 0x06#8, 0x34#8], .aslqBp 0x34#8),
    ([0x42#8, 0x42#8, 0x16#8, 0x34#8], .aslqBpX 0x34#8),
    ([0x42#8, 0x42#8, 0x0E#8, 0x34#8, 0x12#8], .aslqAbs 0x1234#16)] := by decide

/-- The Q opcodes. -/
theorem test_decode_q_2 : ReadAs [
    ([0x42#8, 0x42#8, 0x1E#8, 0x34#8, 0x12#8], .aslqAbsX 0x1234#16),
    ([0x42#8, 0x42#8, 0x43#8], .asrqQ),
    ([0x42#8, 0x42#8, 0x44#8, 0x34#8], .asrqBp 0x34#8),
    ([0x42#8, 0x42#8, 0x54#8, 0x34#8], .asrqBpX 0x34#8),
    ([0x42#8, 0x42#8, 0x4A#8], .lsrqQ),
    ([0x42#8, 0x42#8, 0x46#8, 0x34#8], .lsrqBp 0x34#8),
    ([0x42#8, 0x42#8, 0x56#8, 0x34#8], .lsrqBpX 0x34#8),
    ([0x42#8, 0x42#8, 0x4E#8, 0x34#8, 0x12#8], .lsrqAbs 0x1234#16),
    ([0x42#8, 0x42#8, 0x5E#8, 0x34#8, 0x12#8], .lsrqAbsX 0x1234#16),
    ([0x42#8, 0x42#8, 0x2A#8], .rolqQ),
    ([0x42#8, 0x42#8, 0x26#8, 0x34#8], .rolqBp 0x34#8),
    ([0x42#8, 0x42#8, 0x36#8, 0x34#8], .rolqBpX 0x34#8),
    ([0x42#8, 0x42#8, 0x2E#8, 0x34#8, 0x12#8], .rolqAbs 0x1234#16),
    ([0x42#8, 0x42#8, 0x3E#8, 0x34#8, 0x12#8], .rolqAbsX 0x1234#16),
    ([0x42#8, 0x42#8, 0x6A#8], .rorqQ)] := by decide

/-- The Q opcodes. -/
theorem test_decode_q_3 : ReadAs [
    ([0x42#8, 0x42#8, 0x66#8, 0x34#8], .rorqBp 0x34#8),
    ([0x42#8, 0x42#8, 0x76#8, 0x34#8], .rorqBpX 0x34#8),
    ([0x42#8, 0x42#8, 0x6E#8, 0x34#8, 0x12#8], .rorqAbs 0x1234#16),
    ([0x42#8, 0x42#8, 0x7E#8, 0x34#8, 0x12#8], .rorqAbsX 0x1234#16),
    ([0x42#8, 0x42#8, 0x1A#8], .inqQ),
    ([0x42#8, 0x42#8, 0xE6#8, 0x34#8], .inqBp 0x34#8),
    ([0x42#8, 0x42#8, 0xF6#8, 0x34#8], .inqBpX 0x34#8),
    ([0x42#8, 0x42#8, 0xEE#8, 0x34#8, 0x12#8], .inqAbs 0x1234#16),
    ([0x42#8, 0x42#8, 0xFE#8, 0x34#8, 0x12#8], .inqAbsX 0x1234#16),
    ([0x42#8, 0x42#8, 0x3A#8], .deqQ),
    ([0x42#8, 0x42#8, 0xC6#8, 0x34#8], .deqBp 0x34#8),
    ([0x42#8, 0x42#8, 0xD6#8, 0x34#8], .deqBpX 0x34#8),
    ([0x42#8, 0x42#8, 0xCE#8, 0x34#8, 0x12#8], .deqAbs 0x1234#16),
    ([0x42#8, 0x42#8, 0xDE#8, 0x34#8, 0x12#8], .deqAbsX 0x1234#16)] := by decide

/-- The reserved Q opcodes. -/
theorem test_decode_reserved_0 : ReadAs [
    ([0x42#8, 0x42#8, 0x15#8, 0x34#8], .resq15 0x34#8),
    ([0x42#8, 0x42#8, 0x34#8, 0x34#8], .resq34 0x34#8),
    ([0x42#8, 0x42#8, 0x35#8, 0x34#8], .resq35 0x34#8),
    ([0x42#8, 0x42#8, 0x55#8, 0x34#8], .resq55 0x34#8),
    ([0x42#8, 0x42#8, 0x75#8, 0x34#8], .resq75 0x34#8),
    ([0x42#8, 0x42#8, 0x1D#8, 0x34#8, 0x12#8], .resq1D 0x1234#16),
    ([0x42#8, 0x42#8, 0x3C#8, 0x34#8, 0x12#8], .resq3C 0x1234#16),
    ([0x42#8, 0x42#8, 0x3D#8, 0x34#8, 0x12#8], .resq3D 0x1234#16),
    ([0x42#8, 0x42#8, 0x5D#8, 0x34#8, 0x12#8], .resq5D 0x1234#16),
    ([0x42#8, 0x42#8, 0x7D#8, 0x34#8, 0x12#8], .resq7D 0x1234#16),
    ([0x42#8, 0x42#8, 0x19#8, 0x34#8, 0x12#8], .resq19 0x1234#16),
    ([0x42#8, 0x42#8, 0x39#8, 0x34#8, 0x12#8], .resq39 0x1234#16),
    ([0x42#8, 0x42#8, 0x59#8, 0x34#8, 0x12#8], .resq59 0x1234#16)] := by decide

/-- The reserved Q opcodes. -/
theorem test_decode_reserved_1 : ReadAs [
    ([0x42#8, 0x42#8, 0x79#8, 0x34#8, 0x12#8], .resq79 0x1234#16),
    ([0x42#8, 0x42#8, 0x01#8, 0x34#8], .resq01 0x34#8),
    ([0x42#8, 0x42#8, 0x21#8, 0x34#8], .resq21 0x34#8),
    ([0x42#8, 0x42#8, 0x41#8, 0x34#8], .resq41 0x34#8),
    ([0x42#8, 0x42#8, 0x61#8, 0x34#8], .resq61 0x34#8),
    ([0x42#8, 0x42#8, 0x11#8, 0x34#8], .resq11 0x34#8),
    ([0x42#8, 0x42#8, 0x31#8, 0x34#8], .resq31 0x34#8),
    ([0x42#8, 0x42#8, 0x51#8, 0x34#8], .resq51 0x34#8),
    ([0x42#8, 0x42#8, 0x71#8, 0x34#8], .resq71 0x34#8),
    ([0x42#8, 0x42#8, 0x95#8, 0x34#8], .rsvq95 0x34#8),
    ([0x42#8, 0x42#8, 0xD5#8, 0x34#8], .rsvqD5 0x34#8),
    ([0x42#8, 0x42#8, 0xF5#8, 0x34#8], .rsvqF5 0x34#8),
    ([0x42#8, 0x42#8, 0x9D#8, 0x34#8, 0x12#8], .rsvq9D 0x1234#16)] := by decide

/-- The reserved Q opcodes. -/
theorem test_decode_reserved_2 : ReadAs [
    ([0x42#8, 0x42#8, 0xDD#8, 0x34#8, 0x12#8], .rsvqDD 0x1234#16),
    ([0x42#8, 0x42#8, 0xFD#8, 0x34#8, 0x12#8], .rsvqFD 0x1234#16),
    ([0x42#8, 0x42#8, 0x99#8, 0x34#8, 0x12#8], .rsvq99 0x1234#16),
    ([0x42#8, 0x42#8, 0xD9#8, 0x34#8, 0x12#8], .rsvqD9 0x1234#16),
    ([0x42#8, 0x42#8, 0xF9#8, 0x34#8, 0x12#8], .rsvqF9 0x1234#16),
    ([0x42#8, 0x42#8, 0x81#8, 0x34#8], .rsvq81 0x34#8),
    ([0x42#8, 0x42#8, 0xA1#8, 0x34#8], .rsvqA1 0x34#8),
    ([0x42#8, 0x42#8, 0xC1#8, 0x34#8], .rsvqC1 0x34#8),
    ([0x42#8, 0x42#8, 0xE1#8, 0x34#8], .rsvqE1 0x34#8),
    ([0x42#8, 0x42#8, 0x91#8, 0x34#8], .rsvq91 0x34#8),
    ([0x42#8, 0x42#8, 0xD1#8, 0x34#8], .rsvqD1 0x34#8),
    ([0x42#8, 0x42#8, 0xF1#8, 0x34#8], .rsvqF1 0x34#8),
    ([0x42#8, 0x42#8, 0x82#8, 0x34#8], .rsvq82 0x34#8)] := by decide

/-- The Q far opcodes. -/
theorem test_decode_qfar : ReadAs [
    ([0x42#8, 0x42#8, 0xEA#8, 0x12#8, 0x34#8], .orqFar 0x34#8),
    ([0x42#8, 0x42#8, 0xEA#8, 0x32#8, 0x34#8], .andqFar 0x34#8),
    ([0x42#8, 0x42#8, 0xEA#8, 0x52#8, 0x34#8], .eorqFar 0x34#8),
    ([0x42#8, 0x42#8, 0xEA#8, 0x72#8, 0x34#8], .adcqFar 0x34#8),
    ([0x42#8, 0x42#8, 0xEA#8, 0x92#8, 0x34#8], .stqFar 0x34#8),
    ([0x42#8, 0x42#8, 0xEA#8, 0xB2#8, 0x34#8], .ldqFarZ 0x34#8),
    ([0x42#8, 0x42#8, 0xEA#8, 0xD2#8, 0x34#8], .cmpqFar 0x34#8),
    ([0x42#8, 0x42#8, 0xEA#8, 0xF2#8, 0x34#8], .sbcqFar 0x34#8)] := by decide

/-! ### One-step vectors -/

/-- The eight stored flags, in the order N V E D I Zf C. -/
def flags (n v e d i z c : Bool) : Flags := { n := n, v := v, e := e, d := d, i := i, z := z, c := c }

/-- The start context S0 of `spec/95_test_vectors.md`. -/
def s0 : State :=
  { State.reset with
    hyper := false, b := 0x00#8, sph := 0x01#8, pc := 0x2000#16, portDdr := 0x07#8, portData := 0x00#8, atEntry := false
    map := { loOff := 0x000#12, loEn := 0x0#4, hiOff := 0x000#12, hiEn := 0x0#4, mbLo := 0x00#8, mbHi := 0x00#8 } }

/-- The start context S0-IO: HIRAM and CHAREN are 1. -/
def s0io : State := { s0 with portData := 0x06#8 }

/-- The state with bytes of memory set. -/
def poke (s : State) (ws : List (Phys × Byte)) : State := s.storeAll ws

/-- The state after one step, with the bytes at PC, if there is a next state. -/
def run (bs : List Byte) (s : State) : Option State :=
  match step (s.placeBytes s.pc bs) with
  | .next t => some t
  | .fault _ | .refused _ => none

/-- Why one step, with the bytes at PC, is refused. -/
def stops (bs : List Byte) (s : State) : Option Refusal :=
  match step (s.placeBytes s.pc bs) with
  | .refused r => some r
  | .next _ | .fault _ => none

/-- Vector T1. -/
theorem test_lda_base_page : (run [0xA5#8, 0x12#8]
    { poke s0 [(0x0003412#28, 0x5A#8), (0x0000012#28, 0xA5#8)] with b := 0x34#8 }).map (fun t => (t.a, t.fl.n, t.fl.z, t.pc)) =
    some (0x5A#8, false, false, 0x2002#16) := by decide

/-- Vector T2. -/
theorem test_lda_base_page_x_wraps : (run [0xB5#8, 0xF0#8]
    { poke s0 [(0x0000010#28, 0xAA#8), (0x0000110#28, 0x55#8)] with x := 0x20#8 }).map (fun t => (t.a, t.fl.n, t.pc)) =
    some (0xAA#8, true, 0x2002#16) := by decide

/-- Vector T3. -/
theorem test_ldq_base_page_runs_on : (run [0x42#8, 0x42#8, 0xA5#8, 0xFE#8]
    { poke s0 [(0x00012FE#28, 0x11#8), (0x00012FF#28, 0x22#8), (0x0001300#28, 0x33#8), (0x0001301#28, 0x44#8), (0x0001200#28, 0x99#8)] with b := 0x12#8 }).map (fun t => (t.q, t.pc)) =
    some (0x44332211#32, 0x2004#16) := by decide

/-- Vector T6. -/
theorem test_lda_x_indirect : (run [0xA1#8, 0x10#8]
    { poke s0 [(0x0000005#28, 0x00#8), (0x0000006#28, 0x30#8), (0x0003000#28, 0x42#8)] with x := 0xF5#8 }).map (fun t => (t.a, t.pc)) =
    some (0x42#8, 0x2002#16) := by decide

/-- Vector T7. -/
theorem test_lda_indirect_y_pointer_wraps : (run [0xB1#8, 0xFF#8]
    { poke s0 [(0x00012FF#28, 0x00#8), (0x0001200#28, 0x40#8), (0x0001300#28, 0x50#8), (0x0004002#28, 0x77#8), (0x0005002#28, 0x88#8)] with b := 0x12#8, y := 0x02#8 }).map (fun t => t.a) =
    some 0x77#8 := by decide

/-- Vector T8. -/
theorem test_lda_indirect_z : (run [0xB2#8, 0x10#8]
    { poke s0 [(0x0000010#28, 0x00#8), (0x0000011#28, 0x30#8), (0x0003003#28, 0xFF#8)] with z := 0x03#8 }).map (fun t => (t.a, t.fl.n)) =
    some (0xFF#8, true) := by decide

/-- Vector T9. -/
theorem test_lda_stack_indirect_y : (run [0xE2#8, 0x01#8]
    { poke s0 [(0x00001FD#28, 0x00#8), (0x00001FE#28, 0x30#8), (0x0003005#28, 0x21#8)] with spl := 0xFC#8, y := 0x05#8 }).map (fun t => (t.a, t.spl)) =
    some (0x21#8, 0xFC#8) := by decide

/-- Vector T10. -/
theorem test_jmp_indirect_carries : (run [0x6C#8, 0xFF#8, 0x12#8]
    (poke s0 [(0x00012FF#28, 0x78#8), (0x0001300#28, 0x56#8), (0x0001200#28, 0x99#8)])).map (fun t => t.pc) =
    some 0x5678#16 := by decide

/-- Vector T12. -/
theorem test_beq_taken : (run [0xF0#8, 0x7F#8]
    { s0 with pc := 0x20F0#16, fl := flags false false true false true true false }).map (fun t => t.pc) =
    some 0x2171#16 := by decide

/-- Vector T13. -/
theorem test_bra_word_base_two : (run [0x83#8, 0xFD#8, 0xFF#8]
    s0).map (fun t => t.pc) =
    some 0x1FFF#16 := by decide

/-- Vector T13. -/
theorem test_bra_word_base_three : (run [0x83#8, 0xFD#8, 0xFF#8]
    { s0 with cfg := { Config.default with relWordBase := .three } }).map (fun t => t.pc) =
    some 0x2000#16 := by decide

/-- Vector T15. -/
theorem test_ldq_indirect_adds_old_z : (run [0x42#8, 0x42#8, 0xB2#8, 0x10#8]
    { poke s0 [(0x0000010#28, 0x00#8), (0x0000011#28, 0x30#8), (0x0003007#28, 0x80#8), (0x0003000#28, 0x01#8), (0x0003001#28, 0x01#8), (0x0003002#28, 0x01#8), (0x0003003#28, 0x01#8)] with z := 0x04#8 }).map (fun t => (t.q, t.fl.n, t.fl.z)) =
    some (0x80000000#32, true, false) := by decide

/-- Vector T16. -/
theorem test_stq_indirect_without_z : (run [0x42#8, 0x42#8, 0x92#8, 0x10#8]
    { poke s0 [(0x0000010#28, 0x00#8), (0x0000011#28, 0x30#8)] with a := 0x11#8, x := 0x22#8, y := 0x33#8, z := 0x04#8 }).map (fun t => (Memory.read t.mem 0x3000, Memory.read t.mem 0x3003, Memory.read t.mem 0x3004, t.pc)) =
    some (0x11#8, 0x04#8, 0x00#8, 0x2004#16) := by decide

/-- Vector T17. -/
theorem test_lda_far_pointer_wraps : (run [0xEA#8, 0xB2#8, 0xFE#8]
    { poke s0 [(0x00012FE#28, 0x00#8), (0x00012FF#28, 0xC0#8), (0x0001200#28, 0x00#8), (0x0001201#28, 0x00#8), (0x000C000#28, 0x3C#8)] with b := 0x12#8 }).map (fun t => (t.a, t.pc)) =
    some (0x3C#8, 0x2003#16) := by decide

/-- Vector T22. -/
theorem test_stq_base_page : (run [0x42#8, 0x42#8, 0x85#8, 0x20#8]
    { s0 with fl := flags true false true false true true true, a := 0x11#8, x := 0x22#8, y := 0x33#8, z := 0x44#8 }).map (fun t => ((Memory.read t.mem 0x0020, Memory.read t.mem 0x0021, Memory.read t.mem 0x0022, Memory.read t.mem 0x0023), (t.fl.n, t.fl.z, t.fl.c))) =
    some ((0x11#8, 0x22#8, 0x33#8, 0x44#8), (true, true, true)) := by decide

/-- Vector T23. -/
theorem test_stq_wraps_into_the_port : (run [0x42#8, 0x42#8, 0x8D#8, 0xFE#8, 0xFF#8]
    { s0 with a := 0x11#8, x := 0x22#8, y := 0x33#8, z := 0x44#8 }).map (fun t => (Memory.read t.mem 0xFFFE, Memory.read t.mem 0xFFFF, t.portDdr, t.portData)) =
    some (0x11#8, 0x22#8, 0x33#8, 0x44#8) := by decide

/-- Vector T33. -/
theorem test_adcq_carry_and_overflow : (run [0x42#8, 0x42#8, 0x65#8, 0x20#8]
    { poke s0 [(0x0000020#28, 0x00#8), (0x0000021#28, 0x00#8), (0x0000022#28, 0x00#8), (0x0000023#28, 0x80#8)] with fl := flags false false true false true false false, a := 0x00#8, x := 0x00#8, y := 0x00#8, z := 0x80#8 }).map (fun t => (t.q, t.fl.c, t.fl.v, t.fl.n, t.fl.z)) =
    some (0x00000000#32, true, true, false, true) := by decide

/-- Vector T35. -/
theorem test_adcq_mixed : (run [0x42#8, 0x42#8, 0x65#8, 0x20#8]
    { poke s0 [(0x0000020#28, 0xA8#8), (0x0000021#28, 0xCB#8), (0x0000022#28, 0xED#8), (0x0000023#28, 0x0F#8)] with fl := flags false false true false true false true, a := 0x78#8, x := 0x56#8, y := 0x34#8, z := 0x12#8 }).map (fun t => (t.q, t.fl.c, t.fl.v, t.fl.n, t.fl.z)) =
    some (0x22222221#32, false, false, false, false) := by decide

/-- Vector T39. -/
theorem test_sbcq_overflow : (run [0x42#8, 0x42#8, 0xE5#8, 0x20#8]
    { poke s0 [(0x0000020#28, 0x01#8), (0x0000021#28, 0x00#8), (0x0000022#28, 0x00#8), (0x0000023#28, 0x00#8)] with fl := flags false false true false true false true, a := 0x00#8, x := 0x00#8, y := 0x00#8, z := 0x80#8 }).map (fun t => (t.q, t.fl.c, t.fl.v, t.fl.n, t.fl.z)) =
    some (0x7FFFFFFF#32, true, true, false, false) := by decide

/-- Vector T40. -/
theorem test_sbcq_borrow_in : (run [0x42#8, 0x42#8, 0xE5#8, 0x20#8]
    { poke s0 [(0x0000020#28, 0x05#8), (0x0000021#28, 0x00#8), (0x0000022#28, 0x00#8), (0x0000023#28, 0x00#8)] with fl := flags false false true false true false false, a := 0x05#8, x := 0x00#8, y := 0x00#8, z := 0x00#8 }).map (fun t => (t.q, t.fl.c, t.fl.v, t.fl.n, t.fl.z)) =
    some (0xFFFFFFFF#32, false, false, true, false) := by decide

/-- Vector T46. -/
theorem test_cmpq_unsigned : (run [0x42#8, 0x42#8, 0xC5#8, 0x20#8]
    { poke s0 [(0x0000020#28, 0xFF#8), (0x0000021#28, 0xFF#8), (0x0000022#28, 0xFF#8), (0x0000023#28, 0x7F#8)] with fl := flags false false true false true false false, a := 0x00#8, x := 0x00#8, y := 0x00#8, z := 0x80#8 }).map (fun t => (t.q, t.fl.c, t.fl.v, t.fl.n, t.fl.z)) =
    some (0x80000000#32, true, false, false, false) := by decide

/-- Vector T48. -/
theorem test_cmpq_less : (run [0x42#8, 0x42#8, 0xC5#8, 0x20#8]
    { poke s0 [(0x0000020#28, 0xFF#8), (0x0000021#28, 0xFF#8), (0x0000022#28, 0xFF#8), (0x0000023#28, 0xFF#8)] with fl := flags false false true false true false true, a := 0x00#8, x := 0x00#8, y := 0x00#8, z := 0x00#8 }).map (fun t => (t.q, t.fl.c, t.fl.n, t.fl.z)) =
    some (0x00000000#32, false, false, false) := by decide

/-- Vector T49. -/
theorem test_andq : (run [0x42#8, 0x42#8, 0x25#8, 0x20#8]
    { poke s0 [(0x0000020#28, 0xF0#8), (0x0000021#28, 0x0F#8), (0x0000022#28, 0xF0#8), (0x0000023#28, 0x0F#8)] with fl := flags false false true false true false true, a := 0x00#8, x := 0xFF#8, y := 0x00#8, z := 0xFF#8 }).map (fun t => (t.q, t.fl.c, t.fl.n, t.fl.z)) =
    some (0x0F000F00#32, true, false, false) := by decide

/-- Vector T51. -/
theorem test_orq : (run [0x42#8, 0x42#8, 0x05#8, 0x20#8]
    { poke s0 [(0x0000020#28, 0x00#8), (0x0000021#28, 0x00#8), (0x0000022#28, 0x00#8), (0x0000023#28, 0x80#8)] with fl := flags false false true false true false false, a := 0x01#8, x := 0x00#8, y := 0x00#8, z := 0x00#8 }).map (fun t => (t.q, t.fl.n, t.fl.z)) =
    some (0x80000001#32, true, false) := by decide

/-- Vector T54. -/
theorem test_eorq : (run [0x42#8, 0x42#8, 0x45#8, 0x20#8]
    { poke s0 [(0x0000020#28, 0xFF#8), (0x0000021#28, 0xFF#8), (0x0000022#28, 0xFF#8), (0x0000023#28, 0xFF#8)] with fl := flags false false true false true false false, a := 0x78#8, x := 0x56#8, y := 0x34#8, z := 0x12#8 }).map (fun t => (t.q, t.fl.n, t.fl.z)) =
    some (0xEDCBA987#32, true, false) := by decide

/-- Vector T55. -/
theorem test_bitq : (run [0x42#8, 0x42#8, 0x24#8, 0x20#8]
    { poke s0 [(0x0000020#28, 0x00#8), (0x0000021#28, 0x00#8), (0x0000022#28, 0x00#8), (0x0000023#28, 0xC0#8)] with fl := flags false false true false true false true, a := 0x0F#8, x := 0x00#8, y := 0x00#8, z := 0x00#8 }).map (fun t => (t.q, t.fl.v, t.fl.n, t.fl.z, t.fl.c)) =
    some (0x0000000F#32, true, true, true, true) := by decide

/-- Vector T60. -/
theorem test_adcq_indirect_without_z : (run [0x42#8, 0x42#8, 0x72#8, 0x10#8]
    { poke s0 [(0x0000010#28, 0x00#8), (0x0000011#28, 0x30#8), (0x0003000#28, 0x01#8), (0x0003001#28, 0x00#8), (0x0003002#28, 0x00#8), (0x0003003#28, 0x00#8), (0x0003004#28, 0x7F#8)] with a := 0x01#8, x := 0x00#8, y := 0x00#8, z := 0x01#8 }).map (fun t => (t.q, t.fl.c)) =
    some (0x01000002#32, false) := by decide

/-- Vector T70. -/
theorem test_aslq : (run [0x42#8, 0x42#8, 0x0A#8]
    { s0 with fl := flags false false true false true false false, a := 0x01#8, x := 0x00#8, y := 0x00#8, z := 0x80#8 }).map (fun t => (t.q, t.fl.c, t.fl.n, t.fl.z)) =
    some (0x00000002#32, true, false, false) := by decide

/-- Vector T74. -/
theorem test_asrq : (run [0x42#8, 0x42#8, 0x43#8]
    { s0 with fl := flags false false true false true false false, a := 0x01#8, x := 0x00#8, y := 0x00#8, z := 0x80#8 }).map (fun t => (t.q, t.fl.c, t.fl.n, t.fl.z)) =
    some (0xC0000000#32, true, true, false) := by decide

/-- Vector T78. -/
theorem test_lsrq : (run [0x42#8, 0x42#8, 0x4A#8]
    { s0 with fl := flags false false true false true false false, a := 0x01#8, x := 0x00#8, y := 0x00#8, z := 0x80#8 }).map (fun t => (t.q, t.fl.c, t.fl.n, t.fl.z)) =
    some (0x40000000#32, true, false, false) := by decide

/-- Vector T83. -/
theorem test_rolq : (run [0x42#8, 0x42#8, 0x2A#8]
    { s0 with fl := flags false false true false true false true, a := 0x00#8, x := 0x00#8, y := 0x00#8, z := 0x40#8 }).map (fun t => (t.q, t.fl.c, t.fl.n, t.fl.z)) =
    some (0x80000001#32, false, true, false) := by decide

/-- Vector T86. -/
theorem test_rorq : (run [0x42#8, 0x42#8, 0x6A#8]
    { s0 with fl := flags false false true false true false true, a := 0x78#8, x := 0x56#8, y := 0x34#8, z := 0x12#8 }).map (fun t => (t.q, t.fl.c, t.fl.n, t.fl.z)) =
    some (0x891A2B3C#32, false, true, false) := by decide

/-- Vector T87. -/
theorem test_inq : (run [0x42#8, 0x42#8, 0x1A#8]
    { s0 with fl := flags false false true false true false true, a := 0xFF#8, x := 0xFF#8, y := 0xFF#8, z := 0xFF#8 }).map (fun t => (t.q, t.fl.c, t.fl.n, t.fl.z)) =
    some (0x00000000#32, true, false, true) := by decide

/-- Vector T90. -/
theorem test_deq : (run [0x42#8, 0x42#8, 0x3A#8]
    { s0 with fl := flags false false true false true false true, a := 0x00#8, x := 0x00#8, y := 0x00#8, z := 0x00#8 }).map (fun t => (t.q, t.fl.c, t.fl.n, t.fl.z)) =
    some (0xFFFFFFFF#32, true, true, false) := by decide

/-- Vector T93. -/
theorem test_rolq_memory : (run [0x42#8, 0x42#8, 0x26#8, 0x10#8]
    { poke s0 [(0x0000010#28, 0x00#8), (0x0000011#28, 0x00#8), (0x0000012#28, 0x00#8), (0x0000013#28, 0x80#8)] with fl := flags false false true false true false true, a := 0xDD#8, x := 0xCC#8, y := 0xBB#8, z := 0xAA#8 }).map (fun t => ((Memory.read t.mem 0x0010, Memory.read t.mem 0x0013, t.fl.c, t.fl.n), (t.fl.z, t.q))) =
    some ((0x01#8, 0x00#8, true, false), (false, 0xAABBCCDD#32)) := by decide

/-- Vector T94. -/
theorem test_inq_base_page_x : (run [0x42#8, 0x42#8, 0xF6#8, 0x10#8]
    { poke s0 [(0x0000014#28, 0xFF#8), (0x0000015#28, 0xFF#8), (0x0000016#28, 0xFF#8), (0x0000017#28, 0xFF#8)] with x := 0x04#8 }).map (fun t => (Memory.read t.mem 0x0014, Memory.read t.mem 0x0017, t.fl.z, t.x)) =
    some (0x00#8, 0x00#8, true, 0x04#8) := by decide

/-- Vector T95. -/
theorem test_deq_absolute : (run [0x42#8, 0x42#8, 0xCE#8, 0x00#8, 0x30#8]
    (poke s0 [(0x0003002#28, 0x01#8)])).map (fun t => (Memory.read t.mem 0x3000, Memory.read t.mem 0x3001, Memory.read t.mem 0x3002, t.fl.n, t.fl.z)) =
    some (0xFF#8, 0xFF#8, 0x00#8, false, false) := by decide

/-- Vector T96. -/
theorem test_aslq_absolute_x : (run [0x42#8, 0x42#8, 0x1E#8, 0xF0#8, 0x30#8]
    { poke s0 [(0x0003100#28, 0x01#8), (0x0003101#28, 0x00#8), (0x0003102#28, 0x00#8), (0x0003103#28, 0xC0#8)] with x := 0x10#8 }).map (fun t => (Memory.read t.mem 0x3100, Memory.read t.mem 0x3103, t.fl.c, t.fl.n, t.pc)) =
    some (0x02#8, 0x80#8, true, true, 0x2005#16) := by decide

/-- Vector T97. -/
theorem test_asrq_memory : (run [0x42#8, 0x42#8, 0x44#8, 0x10#8]
    (poke s0 [(0x0000010#28, 0x02#8), (0x0000011#28, 0x00#8), (0x0000012#28, 0x00#8), (0x0000013#28, 0x80#8)])).map (fun t => (Memory.read t.mem 0x0010, Memory.read t.mem 0x0013, t.fl.c, t.fl.n)) =
    some (0x01#8, 0xC0#8, false, true) := by decide

/-- Vector T98. -/
theorem test_rorq_absolute : (run [0x42#8, 0x42#8, 0x6E#8, 0x00#8, 0x30#8]
    { poke s0 [(0x0003000#28, 0x01#8)] with fl := flags false false true false true false true }).map (fun t => (Memory.read t.mem 0x3000, Memory.read t.mem 0x3003, t.fl.c, t.fl.n)) =
    some (0x00#8, 0x80#8, true, true) := by decide

/-- Vector T99. -/
theorem test_lsrq_base_page_x_wraps : (run [0x42#8, 0x42#8, 0x56#8, 0x10#8]
    { poke s0 [(0x0000008#28, 0x03#8)] with x := 0xF8#8 }).map (fun t => (Memory.read t.mem 0x0008, t.fl.c, t.fl.z)) =
    some (0x01#8, true, false) := by decide

/-- Vector T100. -/
theorem test_lda_far_drops_the_top_bits : (run [0xEA#8, 0xB2#8, 0x10#8]
    (poke s0 [(0x0000010#28, 0x00#8), (0x0000011#28, 0xC0#8), (0x0000012#28, 0x00#8), (0x0000013#28, 0xF0#8), (0x000C000#28, 0x99#8)])).map (fun t => (t.a, t.fl.n)) =
    some (0x99#8, true) := by decide

/-- Vector T101. -/
theorem test_lda_far_is_not_the_port : (run [0xEA#8, 0xB2#8, 0x10#8]
    { poke s0 [(0x0000010#28, 0xFF#8), (0x0000011#28, 0xFF#8), (0x0000012#28, 0xFF#8), (0x0000013#28, 0xFF#8), (0x0000001#28, 0x11#8)] with z := 0x02#8 }).map (fun t => t.a) =
    some 0x11#8 := by decide

/-- Vector T103. -/
theorem test_adc_far : (run [0xEA#8, 0x72#8, 0x10#8]
    { poke s0 [(0x0000010#28, 0x00#8), (0x0000011#28, 0xC0#8), (0x000C000#28, 0x50#8)] with a := 0x50#8 }).map (fun t => (t.a, t.fl.c, t.fl.v, t.fl.n, t.fl.z)) =
    some (0xA0#8, false, true, true, false) := by decide

/-- Vector T104. -/
theorem test_sbc_far : (run [0xEA#8, 0xF2#8, 0x10#8]
    { poke s0 [(0x0000010#28, 0x00#8), (0x0000011#28, 0xC0#8), (0x000C000#28, 0x01#8)] with fl := flags false false true false true false true }).map (fun t => (t.a, t.fl.c, t.fl.v, t.fl.n, t.fl.z)) =
    some (0xFF#8, false, false, true, false) := by decide

/-- Vector T105. -/
theorem test_cmp_far : (run [0xEA#8, 0xD2#8, 0x10#8]
    { poke s0 [(0x0000010#28, 0x00#8), (0x0000011#28, 0xC0#8), (0x000C000#28, 0x40#8)] with a := 0x40#8 }).map (fun t => (t.a, t.fl.c, t.fl.n, t.fl.z)) =
    some (0x40#8, true, false, true) := by decide

/-- Vector T109. -/
theorem test_ldq_far : (run [0x42#8, 0x42#8, 0xEA#8, 0xB2#8, 0x10#8]
    { poke s0 [(0x0000010#28, 0x00#8), (0x0000011#28, 0xC0#8), (0x000C004#28, 0x78#8), (0x000C005#28, 0x56#8), (0x000C006#28, 0x34#8), (0x000C007#28, 0x12#8)] with z := 0x04#8 }).map (fun t => (t.q, t.fl.n, t.fl.z, t.pc)) =
    some (0x12345678#32, false, false, 0x2005#16) := by decide

/-- Vector T110. -/
theorem test_stq_far_without_z : (run [0x42#8, 0x42#8, 0xEA#8, 0x92#8, 0x10#8]
    { poke s0 [(0x0000010#28, 0x00#8), (0x0000011#28, 0xC0#8)] with a := 0x11#8, x := 0x22#8, y := 0x33#8, z := 0x05#8 }).map (fun t => (Memory.read t.mem 0x0C000, Memory.read t.mem 0x0C003, Memory.read t.mem 0x0C005)) =
    some (0x11#8, 0x05#8, 0x00#8) := by decide

/-- Vector T111. -/
theorem test_adcq_far : (run [0x42#8, 0x42#8, 0xEA#8, 0x72#8, 0x10#8]
    { poke s0 [(0x0000010#28, 0x00#8), (0x0000011#28, 0xC0#8), (0x000C000#28, 0xFE#8), (0x000C001#28, 0xFF#8), (0x000C002#28, 0xFF#8), (0x000C003#28, 0xFF#8)] with fl := flags false false true false true false true, a := 0x01#8, x := 0x00#8, y := 0x00#8, z := 0x00#8 }).map (fun t => (t.q, t.fl.c, t.fl.v, t.fl.z)) =
    some (0x00000000#32, true, false, true) := by decide

/-- Vector T113. -/
theorem test_eom_before_lda_immediate : (run [0xEA#8, 0xA9#8, 0x05#8]
    { s0 with mapInhibit := true }).map (fun t => (t.mapInhibit, t.pc, t.a)) =
    some (false, 0x2001#16, 0x00#8) := by decide

/-- Vector T120. -/
theorem test_map : (run [0x5C#8]
    { s0 with a := 0x34#8, x := 0xA2#8, y := 0x78#8, z := 0x16#8 }).map (fun t => ((t.map.loOff, t.map.loEn), (t.map.hiOff, t.map.hiEn), t.mapInhibit, t.pc)) =
    some ((0x234#12, 0xA#4), (0x678#12, 0x1#4), true, 0x2001#16) := by decide

/-- Vector T121. -/
theorem test_map_megabytes : (run [0x5C#8]
    { s0 with a := 0x80#8, x := 0x0F#8, y := 0xFF#8, z := 0x0F#8 }).map (fun t => ((t.map.mbLo, t.map.mbHi), (t.map.loOff, t.map.loEn))) =
    some ((0x80#8, 0xFF#8), (0xF80#12, 0x0#4)) := by decide

/-- Vector T126. -/
theorem test_neg : (run [0x42#8, 0xA9#8, 0x05#8]
    { s0 with a := 0x01#8 }).map (fun t => (t.a, t.fl.n, t.fl.z, t.pc)) =
    some (0xFF#8, true, false, 0x2001#16) := by decide

/-- Vector T145. -/
theorem test_stz_stores_register_z : (run [0x9C#8, 0x00#8, 0x30#8]
    { poke s0 [(0x0003000#28, 0xFF#8)] with z := 0x7E#8 }).map (fun t => (Memory.read t.mem 0x3000)) =
    some 0x7E#8 := by decide

/-- Vector T146. -/
theorem test_stx_base_page_y : (run [0x96#8, 0x10#8]
    { s0 with x := 0x12#8, y := 0xF8#8 }).map (fun t => (Memory.read t.mem 0x0008)) =
    some 0x12#8 := by decide

/-- Vector T149. -/
theorem test_tab : (run [0x5B#8]
    { s0 with a := 0x34#8, fl := flags false false true false true true false }).map (fun t => (t.b, t.fl.n, t.fl.z)) =
    some (0x34#8, false, true) := by decide

/-- Vector T154. -/
theorem test_pha_wraps_in_the_page : (run [0x48#8]
    { s0 with a := 0xAB#8, spl := 0x00#8 }).map (fun t => (Memory.read t.mem 0x0100, t.spl, t.sph)) =
    some (0xAB#8, 0xFF#8, 0x01#8) := by decide

/-- Vector T155. -/
theorem test_pha_16_bit_stack : (run [0x48#8]
    { s0 with a := 0xAB#8, spl := 0x00#8, fl := flags false false false false true false false }).map (fun t => (Memory.read t.mem 0x0100, t.spl, t.sph)) =
    some (0xAB#8, 0xFF#8, 0x00#8) := by decide

/-- Vector T157. -/
theorem test_pla_16_bit_stack : (run [0x68#8]
    { poke s0 [(0x0000200#28, 0x77#8)] with fl := flags false false false false true false false }).map (fun t => (t.a, t.sph, t.spl)) =
    some (0x77#8, 0x02#8, 0x00#8) := by decide

/-- Vector T158. -/
theorem test_php : (run [0x08#8]
    { s0 with fl := flags true false true false true false true }).map (fun t => (Memory.read t.mem 0x01FF, t.spl)) =
    some (0xB5#8, 0xFE#8) := by decide

/-- Vector T159. -/
theorem test_plp_keeps_e : (run [0x28#8]
    { poke s0 [(0x00001FF#28, 0xCF#8)] with spl := 0xFE#8 }).map (fun t => t.fl) =
    some (flags true true true true true true true) := by decide

/-- Vector T160. -/
theorem test_phw_absolute : (run [0xFC#8, 0x00#8, 0x30#8]
    (poke s0 [(0x0003000#28, 0x34#8), (0x0003001#28, 0x12#8)])).map (fun t => (Memory.read t.mem 0x01FF, Memory.read t.mem 0x01FE, t.spl, t.pc)) =
    some (0x12#8, 0x34#8, 0xFD#8, 0x2003#16) := by decide

/-- Vector T173. -/
theorem test_adc_overflow : (run [0x69#8, 0xFF#8]
    { s0 with a := 0x80#8 }).map (fun t => (t.a, t.fl.c, t.fl.v, t.fl.n, t.fl.z)) =
    some (0x7F#8, true, true, false, false) := by decide

/-- Vector T179. -/
theorem test_sbc_borrow_in : (run [0xE9#8, 0x20#8]
    { s0 with a := 0x40#8 }).map (fun t => (t.a, t.fl.c, t.fl.v, t.fl.n, t.fl.z)) =
    some (0x1F#8, true, false, false, false) := by decide

/-- Vector T182. -/
theorem test_adc_decimal : (run [0x69#8, 0x46#8]
    { s0 with a := 0x58#8, fl := flags false false true true true false true }).map (fun t => (t.a, t.fl.c, t.fl.n, t.fl.z)) =
    some (0x05#8, true, false, false) := by decide

/-- Vector T184. -/
theorem test_sbc_decimal : (run [0xE9#8, 0x01#8]
    { s0 with fl := flags false false true true true false true }).map (fun t => (t.a, t.fl.c, t.fl.n, t.fl.z)) =
    some (0x99#8, false, true, false) := by decide

/-- Vector T193. -/
theorem test_cmp : (run [0xC9#8, 0xFF#8]
    s0).map (fun t => (t.fl.c, t.fl.n, t.fl.z)) =
    some (false, false, false) := by decide

/-- Vector T196. -/
theorem test_cpz : (run [0xC2#8, 0x7F#8]
    { s0 with z := 0x80#8 }).map (fun t => (t.fl.c, t.fl.n, t.fl.z)) =
    some (true, false, false) := by decide

/-- Vector T202. -/
theorem test_bit_immediate : (run [0x89#8, 0x80#8]
    { s0 with a := 0x80#8, fl := flags false true true false true false false }).map (fun t => (t.fl.z, t.fl.n, t.fl.v)) =
    some (false, true, false) := by decide

/-- Vector T206. -/
theorem test_ror_a : (run [0x6A#8]
    { s0 with a := 0x01#8, fl := flags false false true false true false true }).map (fun t => (t.a, t.fl.c, t.fl.n, t.fl.z)) =
    some (0x80#8, true, true, false) := by decide

/-- Vector T208. -/
theorem test_asr_memory : (run [0x44#8, 0x10#8]
    (poke s0 [(0x0000010#28, 0x02#8)])).map (fun t => (Memory.read t.mem 0x0010, t.fl.c, t.fl.n, t.fl.z)) =
    some (0x01#8, false, false, false) := by decide

/-- Vector T210. -/
theorem test_asw : (run [0xCB#8, 0x00#8, 0x30#8]
    (poke s0 [(0x0003000#28, 0x01#8), (0x0003001#28, 0x80#8)])).map (fun t => (Memory.read t.mem 0x3000, Memory.read t.mem 0x3001, t.fl.c, t.fl.n, t.fl.z)) =
    some (0x02#8, 0x00#8, true, false, false) := by decide

/-- Vector T211. -/
theorem test_row : (run [0xEB#8, 0x00#8, 0x30#8]
    { poke s0 [(0x0003000#28, 0x00#8), (0x0003001#28, 0x80#8)] with fl := flags false false true false true false true }).map (fun t => (Memory.read t.mem 0x3000, Memory.read t.mem 0x3001, t.fl.c, t.fl.n, t.fl.z)) =
    some (0x01#8, 0x00#8, true, false, false) := by decide

/-- Vector T212. -/
theorem test_inc_keeps_carry : (run [0xE6#8, 0x10#8]
    { poke s0 [(0x0000010#28, 0xFF#8)] with fl := flags false false true false true false true }).map (fun t => (Memory.read t.mem 0x0010, t.fl.z, t.fl.n, t.fl.c)) =
    some (0x00#8, true, false, true) := by decide

/-- Vector T218. -/
theorem test_dew : (run [0xC3#8, 0x10#8]
    s0).map (fun t => (Memory.read t.mem 0x0010, Memory.read t.mem 0x0011, t.fl.n, t.fl.z)) =
    some (0xFF#8, 0xFF#8, true, false) := by decide

/-- Vector T219. -/
theorem test_inw_leaves_the_page : (run [0xE3#8, 0xFF#8]
    { poke s0 [(0x00012FF#28, 0xFF#8), (0x0001200#28, 0x55#8)] with b := 0x12#8 }).map (fun t => (Memory.read t.mem 0x12FF, Memory.read t.mem 0x1300, Memory.read t.mem 0x1200)) =
    some (0x00#8, 0x01#8, 0x55#8) := by decide

/-- Vector T220. -/
theorem test_tsb : (run [0x04#8, 0x10#8]
    { poke s0 [(0x0000010#28, 0xF0#8)] with a := 0x0F#8 }).map (fun t => (Memory.read t.mem 0x0010, t.fl.z, t.a)) =
    some (0xFF#8, true, 0x0F#8) := by decide

/-- Vector T221. -/
theorem test_trb : (run [0x14#8, 0x10#8]
    { poke s0 [(0x0000010#28, 0xFF#8)] with a := 0x0F#8 }).map (fun t => (Memory.read t.mem 0x0010, t.fl.z)) =
    some (0xF0#8, false) := by decide

/-- Vector T222. -/
theorem test_rmb3 : (run [0x37#8, 0x10#8]
    (poke s0 [(0x0000010#28, 0xFF#8)])).map (fun t => (Memory.read t.mem 0x0010, t.pc)) =
    some (0xF7#8, 0x2002#16) := by decide

/-- Vector T223. -/
theorem test_smb0 : (run [0x87#8, 0x10#8]
    s0).map (fun t => (Memory.read t.mem 0x0010, t.fl.z)) =
    some (0x01#8, false) := by decide

/-- Vector T237. -/
theorem test_bsr : (run [0x63#8, 0x0E#8, 0x00#8]
    s0).map (fun t => (Memory.read t.mem 0x01FF, Memory.read t.mem 0x01FE, t.spl, t.pc)) =
    some (0x20#8, 0x02#8, 0xFD#8, 0x2010#16) := by decide

/-- Vector T239. -/
theorem test_bbs7 : (run [0xFF#8, 0x10#8, 0xFD#8]
    (poke s0 [(0x0000010#28, 0x80#8)])).map (fun t => t.pc) =
    some 0x2000#16 := by decide

/-- Vector T240. -/
theorem test_bbs0_not_taken : (run [0x8F#8, 0x10#8, 0x05#8]
    (poke s0 [(0x0000010#28, 0xFE#8)])).map (fun t => t.pc) =
    some 0x2003#16 := by decide

/-- Vector T244. -/
theorem test_jsr_indirect_x : (run [0x23#8, 0x00#8, 0x30#8]
    { poke s0 [(0x0003002#28, 0x00#8), (0x0003003#28, 0x50#8)] with x := 0x02#8 }).map (fun t => (Memory.read t.mem 0x01FF, Memory.read t.mem 0x01FE, t.pc)) =
    some (0x20#8, 0x02#8, 0x5000#16) := by decide

/-- Vector T246. -/
theorem test_rts_immediate : (run [0x62#8, 0x02#8]
    { poke s0 [(0x00001FC#28, 0x02#8), (0x00001FD#28, 0x20#8)] with spl := 0xFB#8 }).map (fun t => (t.pc, t.spl)) =
    some (0x2003#16, 0xFF#8) := by decide

/-- Vector T247. -/
theorem test_brk : (run [0x00#8, 0xEA#8]
    { poke s0 [(0x000FFFE#28, 0x00#8), (0x000FFFF#28, 0x90#8)] with fl := flags true false true true false false true }).map (fun t => ((Memory.read t.mem 0x01FF, Memory.read t.mem 0x01FE, Memory.read t.mem 0x01FD, t.spl), (t.pc, t.fl))) =
    some ((0x20#8, 0x02#8, 0xB9#8, 0xFC#8), (0x9000#16, flags true false true false true false true)) := by decide

/-- Vector T248. -/
theorem test_rti : (run [0x40#8]
    { poke s0 [(0x00001FD#28, 0xB9#8), (0x00001FE#28, 0x02#8), (0x00001FF#28, 0x20#8)] with pc := 0x9000#16, spl := 0xFC#8 }).map (fun t => (t.pc, t.spl, t.fl)) =
    some (0x2002#16, 0xFF#8, flags true false true true false false true) := by decide

/-- Vector T250. -/
theorem test_irq_entry : (run [0xE8#8]
    { poke s0 [(0x000FFFE#28, 0x34#8), (0x000FFFF#28, 0x12#8)] with irqLine := true, fl := flags false true true false false true false }).map (fun t => ((Memory.read t.mem 0x01FF, Memory.read t.mem 0x01FE, Memory.read t.mem 0x01FD, t.spl), (t.fl.i, t.pc, t.x))) =
    some ((0x20#8, 0x00#8, 0x62#8, 0xFC#8), (true, 0x1234#16, 0x00#8)) := by decide

/-- Vector T251. -/
theorem test_irq_masked : (run [0xE8#8]
    { s0 with irqLine := true }).map (fun t => (t.x, t.pc)) =
    some (0x01#8, 0x2001#16) := by decide

/-- Vector T252. -/
theorem test_nmi_entry : (run [0xE8#8]
    { poke s0 [(0x000FFFA#28, 0x00#8), (0x000FFFB#28, 0xA0#8)] with nmiPending := true, fl := flags false true true false true true false }).map (fun t => (Memory.read t.mem 0x01FD, t.nmiPending, t.pc)) =
    some (0x66#8, false, 0xA000#16) := by decide

/-- Vector X7. -/
theorem test_inc_dummy_write_at_d019 : (run [0xEE#8, 0x19#8, 0xD0#8]
    { s0io with answers := [0x81#8] }).map (fun t => (t.trace, t.fl.n, t.pc)) =
    some ([.write 0xFFD3019#28 0x82#8, .write 0xFFD3019#28 0x81#8, .read 0xFFD3019#28 0x81#8], true, 0x2003#16) := by decide

/-- Vector T225. -/
theorem test_tsb_without_dummy_write : (run [0x0C#8, 0x19#8, 0xD0#8]
    { s0io with a := 0x01#8, answers := [0x80#8] }).map (fun t => (t.trace, t.fl.z)) =
    some ([.write 0xFFD3019#28 0x81#8, .read 0xFFD3019#28 0x80#8], true) := by decide

/-- Vector T260: the STA completes and the SYSCALL waits for the next step. -/
theorem test_sta_d640_raises_a_syscall : (run [0x8D#8, 0x40#8, 0xD6#8]
    { s0io with a := 0x07#8 }).map (fun t => (t.syscall, t.pc, t.hyper, t.hreg[0])) =
    some (some 0x00#6, 0x2003#16, false, 0x00#8) := by decide

/-- Vector T260: the SYSCALL raised before. -/
theorem test_syscall_entry : (run [0xE8#8]
    { s0io with pc := 0x2003#16, syscall := some 0x00#6, a := 0x07#8, x := 0x11#8, fl := flags false false true true false false true }).map (fun t => ((t.pc, t.hyper, t.a, t.b), (t.sph, t.spl, t.fl, t.saved .pcLow, t.saved .spl))) =
    some ((0x8000#16, true, 0x07#8, 0xBF#8), (0xBE#8, 0xFF#8, flags false false true false true false true, 0x03#8, 0xFF#8)) := by decide

/-- Vector T268. -/
theorem test_stq_raises_the_lowest_syscall : (run [0x42#8, 0x42#8, 0x8D#8, 0x3E#8, 0xD6#8]
    { s0io with a := 0x11#8, x := 0x22#8, y := 0x33#8, z := 0x44#8 }).map (fun t => (t.syscall, t.pc)) =
    some (some 0x00#6, 0x2005#16) := by decide

/-- Vector T263. -/
theorem test_write_d67f_returns : (run [0x8D#8, 0x7F#8, 0xD6#8]
    { s0io with hyper := true, hreg := (Vector.replicate 64 0x00#8).set 0 0x0E#8 }).map (fun t => (t.hyper, t.a, t.pc)) =
    some (false, 0x0E#8, 0x0000#16) := by decide

/-- Vector T266. -/
theorem test_reset_event : (run [0xE8#8]
    { s0 with resetLine := true }).map (fun t => ((t.pc, t.hyper, t.b, t.sph), (t.spl, t.fl, t.mapInhibit))) =
    some ((0x8100#16, true, 0xBF#8, 0xBE#8), (0xFF#8, flags false false true false true false false, false)) := by decide

/-- Vector T25. -/
theorem test_no_ldq_immediate : stops [0x42#8, 0x42#8, 0xA9#8, 0x05#8] s0 = some .unlistedPrefix := by decide

/-- Vector T115. -/
theorem test_no_far_lda_immediate : stops [0x42#8, 0x42#8, 0xEA#8, 0xA9#8, 0x05#8] s0 = some .unlistedPrefix := by decide

/-- Vector T116. -/
theorem test_resq : stops [0x42#8, 0x42#8, 0x34#8, 0x10#8] s0 = some .reservedEncoding := by decide

/-- Vector T117. -/
theorem test_rsvq : stops [0x42#8, 0x42#8, 0x95#8, 0x10#8] s0 = some .reservedEncoding := by decide

/-- Vector T58. -/
theorem test_adcq_decimal : stops [0x42#8, 0x42#8, 0x65#8, 0x20#8] { s0 with fl := flags false false true true true false false } = some .adcqDecimal := by decide

/-- Vector T59. -/
theorem test_sbcq_decimal : stops [0x42#8, 0x42#8, 0xE5#8, 0x20#8] { s0 with fl := flags false false true true true false false } = some .sbcqDecimal := by decide

/-- R86: DMA bytes reach `SPEEDBIAS` and the copy of `$D030`. Log entry 11. -/
theorem test_dma_reaches_speedbias :
    let s := { s0io with inputs := [{ dma := [(0xFFD37FA#28, 0x40#8), (0xFFD3030#28, 0x20#8)] }] }
    s.accept.speedBias = 0x40#8 ∧ s.accept.d030 = 0x20#8 := by decide

/-- R86, R480: at `$D67F` a DMA byte does not leave hypervisor mode. Log entry 11. -/
theorem test_dma_does_not_return :
    let s := { s0io with hyper := true, inputs := [{ dma := [(0xFFD367F#28, 0x01#8)] }] }
    s.accept.hyper = true ∧ s.accept.hregAt 0x3F#6 = 0x01#8 := by decide

/-- R6, R476: with another layout of `HREG`, trap entry saves A in its slot there. -/
theorem test_hreg_layout :
    let l := { HregLayout.suggested with a := 0x3E#6, x := 0x00#6, y := 0x01#6, z := 0x02#6, b := 0x03#6 }
    let s := { s0io with a := 0x77#8, x := 0x11#8, cfg := { s0io.cfg with hregLayout := l } }
    s.cfg.wf = true ∧ { s.cfg with hregLayout := { l with b := 0x02#6 } }.wf = false ∧
      (s.trapEnter 0x00#7).hregAt 0x3E#6 = 0x77#8 ∧ (s.trapEnter 0x00#7).hregAt 0x00#6 = 0x11#8 := by decide

/-- R6, R73: the I/O block and the hypervisor memory stand at any base. -/
theorem test_bases :
    let s := { s0io with cfg := { s0io.cfg with hyperBase := 0xFFF0100#28, ioElse := 0x0123456#28, ioBases := [] } }
    s.cfg.wf = true ∧ s.kindOf 0x0123456#28 = .io 0x000#12 ∧ s.kindOf 0x0124455#28 = .io 0xFFF#12 ∧
      s.translate .read 0xD012#16 = .phys 0x0123468#28 ∧
      (s.trapEnter 0x00#7).translate .fetch 0x8000#16 = .phys 0xFFF0100#28 ∧ s.kindOf 0xFFF40FF#28 = .hyperMem := by decide

/-! ### Witnesses: for each statement with hypotheses, a state and operands that meet them all -/

/-- Witness for `Obligations.DecodeOfEncode`: NEG and EOM before bytes at the edge of what they may stand before, and an instruction of five bytes. -/
theorem witness_DecodeOfEncode :
    (Instr.neg).wf [0x41#8] = true ∧ (Instr.eom).wf [0x13#8, 0x42#8] = true ∧ (Instr.ldqFarZ 0xFF#8).wf [0x42#8] = true := by decide

/-- Witness for `Obligations.EncodeOfDecode`: bytes that decode, with bytes after them. -/
theorem witness_EncodeOfDecode :
    (decode [0xEA#8, 0x13#8]).toOption = some (.eom, [0x13#8]) ∧
    (decode [0x42#8, 0x41#8]).toOption = some (.neg, [0x41#8]) := by decide

/-- Witness for `Obligations.DecodeTotality`: one byte that is not 42, and third and fourth bytes that are not listed. -/
theorem witness_DecodeTotality :
    ¬((0x42#8 : Byte) = 0x42#8 ∧ (0x41#8 : Byte) = 0x42#8) ∧ ¬((0xFF#8 : Byte) = 0x42#8 ∧ (0x42#8 : Byte) = 0x42#8) ∧
    ((0x42#8 : Byte) ≠ 0xEA#8 ∧ (0x42#8 : Byte) ∉ (quadMap ++ reservedMap).map Prod.fst) ∧
    (0x13#8 : Byte) ∉ ([0x12#8, 0x32#8, 0x52#8, 0x72#8, 0x92#8, 0xB2#8, 0xD2#8, 0xF2#8] : List Byte) := by refine ⟨by decide, by decide, ⟨by decide, ?_⟩, by decide⟩; simp [quadMap, reservedMap]

/-- Witness for `Obligations.StepRunsDecoded`: LDA #5 at PC, all bytes plain. -/
theorem witness_StepRunsDecoded :
    let s := poke s0 [(0x2000#28, 0xA9#8), (0x2001#28, 0x05#8)]
    let u := { s.accept with atEntry := false }
    s.accept.eventNow = none ∧ u.cfg.personality = .p4510 ∧
      (decode (u.window.map Prod.fst)).toOption = some (.ldaImm 0x05#8, [0x00#8, 0x00#8, 0x00#8]) ∧
      u.window[4 - 3]? = some (0x05#8, u) ∧ u.codeAt u.pc (u.window.map Prod.fst) = true := by decide

/-- Witness for `Obligations.EventTaken`: each event at a boundary, and none right after an entry. -/
theorem witness_EventTaken :
    { s0 with resetLine := true, nmiPending := true }.eventNow = some .reset ∧
    { s0 with syscall := some 0x3F#6, trapRequest := some 0x42#7 }.eventNow = some (.syscall 0x3F#6) ∧
    { s0 with trapRequest := some 0x7F#7, nmiPending := true }.eventNow = some (.trap 0x7F#7) ∧
    { s0 with nmiPending := true, irqLine := true }.accept.eventNow = some .nmi ∧
    { s0 with irqLine := true, fl := flags false false true false false false false }.accept.eventNow = some .irq ∧
    { s0 with resetLine := true, atEntry := true }.atEntry = true ∧ s0.atEntry = false := by decide

/-- Witness for `Obligations.EveryInstructionCompletes`: ADCQ with D = 0, and an instruction with D = 1. -/
theorem witness_EveryInstructionCompletes :
    formOf (.adcqBp 0x20#8) = .aluQ .adc (.bp 0x20#8) 4 ∧ s0.fl.d = false ∧
    formOf (.adcImm 0x0A#8) = .alu .adc (.imm 0x0A#8) 2 := by decide

/-- Witness for `Obligations.LoadResult`: an immediate zero, and LDA through a 32-bit pointer at the edge of the base page. -/
theorem witness_LoadResult :
    (formOf (.ldaImm 0x00#8) = .load .a (.imm 0x00#8) 2 ∧ s0.value (.imm 0x00#8) = some 0x00#8) ∧
    let s := poke s0 [(0x01FE#28, 0xFF#8), (0x01FF#28, 0xFF#8), (0xFFFF#28, 0x80#8)]
    formOf (.ldaFarZ 0xFE#8) = .load .a (.mem (.farZ 0xFE#8)) 3 ∧
      { s with b := 0x01#8 }.value (.mem (.farZ 0xFE#8)) = some 0x80#8 := by decide

/-- Witness for `Obligations.StoreResult`: the last byte of the first 64 KB. -/
theorem witness_StoreResult :
    formOf (.staAbs 0xFFFF#16) = .store .a (.abs 0xFFFF#16) 3 ∧ s0.place (.abs 0xFFFF#16) = some (.cpu 0xFFFF#16) ∧
    s0.ramAt (.cpu 0xFFFF#16) = some 0x000FFFF#28 := by decide

/-- Witness for `Obligations.PushResult`: PHA and PHP with SPL = 0 and E = 1. -/
theorem witness_PushResult :
    let s := { s0 with spl := 0x00#8 }
    s.ramAt (.cpu (s.sph ++ s.spl)) = some 0x0000100#28 ∧ formOf .pha = .push .a 1 ∧ formOf .php = .pushFlags 1 ∧
      [true, false, true, true, false, true, false, true] = [(0xB5#8 : Byte).getLsbD 7, (0xB5#8 : Byte).getLsbD 6,
        (0xB5#8 : Byte).getLsbD 5, (0xB5#8 : Byte).getLsbD 4, (0xB5#8 : Byte).getLsbD 3, (0xB5#8 : Byte).getLsbD 2,
        (0xB5#8 : Byte).getLsbD 1, (0xB5#8 : Byte).getLsbD 0] := by decide

/-- Witness for `Obligations.PushWordResult`: both forms, the push wrapping inside the stack page. -/
theorem witness_PushWordResult :
    let s := poke { s0 with spl := 0x00#8 } [(0x3000#28, 0x34#8), (0x3001#28, 0x12#8)]
    s.ramAt (.cpu (s.sph ++ s.spl)) = some 0x0000100#28 ∧ s.ramAt (.cpu (s.spPlus 0xFFFF#16)) = some 0x00001FF#28 ∧
      formOf (.phwImmW 0x1234#16) = .pushWord 0x1234#16 3 ∧ formOf (.phwAbs 0x3000#16) = .pushWordAt 0x3000#16 3 ∧
      s.peek16 (.cpu 0x3000#16) = some 0x1234#16 := by decide

/-- Witness for `Obligations.PullResult`: PLA and PLP with SPL = $FF and E = 1. -/
theorem witness_PullResult :
    let s := poke s0 [(0x0100#28, 0xCF#8)]
    s.peek (.cpu (s.spPlus 0x0001#16)) = some 0xCF#8 ∧ formOf .pla = .pull .a 1 ∧ formOf .plp = .pullFlags 1 := by decide

/-- Witness for `Obligations.AdcSbcBinary`: ADC # and SBC through the stack. -/
theorem witness_AdcSbcBinary :
    let s := poke s0 [(0x01FF#28, 0x00#8), (0x0200#28, 0x30#8), (0x3000#28, 0xFF#8)]
    s.fl.d = false ∧ s.value (.imm 0xFF#8) = some 0xFF#8 ∧ formOf (.adcImm 0xFF#8) = .alu .adc (.imm 0xFF#8) 2 ∧
      s.value (.mem (.abs 0x3000#16)) = some 0xFF#8 ∧ formOf (.sbcAbs 0x3000#16) = .alu .sbc (.mem (.abs 0x3000#16)) 3 := by decide

/-- Witness for `Obligations.DecimalAddSub`: BCD 99, and $0A, which is not BCD. -/
theorem witness_DecimalAddSub :
    let s := { s0 with a := 0x99#8, fl := flags false false true true true false true }
    s.fl.d = true ∧ s.value (.imm 0x99#8) = some 0x99#8 ∧ formOf (.adcImm 0x99#8) = .alu .adc (.imm 0x99#8) 2 ∧
      s.a.toNat / 16 ≤ 9 ∧ s.a.toNat % 16 ≤ 9 ∧ (0x99#8 : Byte).toNat / 16 ≤ 9 ∧ (0x99#8 : Byte).toNat % 16 ≤ 9 ∧
      s.value (.imm 0x0A#8) = some 0x0A#8 ∧ formOf (.sbcImm 0x0A#8) = .alu .sbc (.imm 0x0A#8) 2 := by decide

/-- Witness for `Obligations.LogicResult`: one form of each operation. -/
theorem witness_LogicResult :
    s0.value (.imm 0xFF#8) = some 0xFF#8 ∧ formOf (.andImm 0xFF#8) = .alu .and (.imm 0xFF#8) 2 ∧
    formOf (.oraImm 0xFF#8) = .alu .ora (.imm 0xFF#8) 2 ∧ formOf (.eorImm 0xFF#8) = .alu .eor (.imm 0xFF#8) 2 ∧
    formOf .neg = .negate 1 := by decide

/-- Witness for `Obligations.CompareResult`: CPZ #. -/
theorem witness_CompareResult :
    formOf (.cpzImm 0xFF#8) = .compare .z (.imm 0xFF#8) 2 ∧ s0.value (.imm 0xFF#8) = some 0xFF#8 := by decide

/-- Witness for `Obligations.BitResult`: both forms. -/
theorem witness_BitResult :
    formOf (.bitBpX 0xFF#8) = .bit (.bpX 0xFF#8) 2 ∧ s0.value (.mem (.bpX 0xFF#8)) = some 0x00#8 ∧
    formOf (.bitImm 0xC0#8) = .bitImm 0xC0#8 2 := by decide

/-- Witness for `Obligations.LoadQResult`: a quad that runs on past the base page. -/
theorem witness_LoadQResult :
    let s := poke s0 [(0x00FE#28, 0x11#8), (0x00FF#28, 0x22#8), (0x0100#28, 0x33#8), (0x0101#28, 0x44#8)]
    formOf (.ldqBp 0xFE#8) = .loadQ (.bp 0xFE#8) 4 ∧ s.place (.bp 0xFE#8) = some (.cpu 0x00FE#16) ∧ s.peek32 (.cpu 0x00FE#16) = some 0x44332211#32 := by decide

/-- Witness for `Obligations.StoreQResult`: a quad that runs on past the base page. -/
theorem witness_StoreQResult :
    let s := poke s0 [(0x00FE#28, 0x11#8), (0x00FF#28, 0x22#8), (0x0100#28, 0x33#8), (0x0101#28, 0x44#8)]
    formOf (.stqBp 0xFE#8) = .storeQ (.bp 0xFE#8) 4 ∧ s.place (.bp 0xFE#8) = some (.cpu 0x00FE#16) ∧ s.peek32 (.cpu 0x00FE#16) = some 0x44332211#32 ∧
      s.ramAt (.cpu 0x00FE#16) = some 0x00000FE#28 ∧ s.ramAt ((Place.cpu 0x00FE#16).plus 1) = some 0x00000FF#28 ∧
      s.ramAt ((Place.cpu 0x00FE#16).plus 2) = some 0x0000100#28 ∧ s.ramAt ((Place.cpu 0x00FE#16).plus 3) = some 0x0000101#28 := by decide

/-- Witness for `Obligations.AdcqResult`: a quad that runs on past the base page. -/
theorem witness_AdcqResult :
    let s := poke s0 [(0x00FE#28, 0x11#8), (0x00FF#28, 0x22#8), (0x0100#28, 0x33#8), (0x0101#28, 0x44#8)]
    formOf (.adcqBp 0xFE#8) = .aluQ .adc (.bp 0xFE#8) 4 ∧ s.place (.bp 0xFE#8) = some (.cpu 0x00FE#16) ∧ s.peek32 (.cpu 0x00FE#16) = some 0x44332211#32 ∧
      s.fl.d = false ∧ { s with fl := flags false false true true true false false }.fl.d = true := by decide

/-- Witness for `Obligations.SbcqResult`: a quad that runs on past the base page. -/
theorem witness_SbcqResult :
    let s := poke s0 [(0x00FE#28, 0x11#8), (0x00FF#28, 0x22#8), (0x0100#28, 0x33#8), (0x0101#28, 0x44#8)]
    formOf (.sbcqBp 0xFE#8) = .aluQ .sbc (.bp 0xFE#8) 4 ∧ s.place (.bp 0xFE#8) = some (.cpu 0x00FE#16) ∧ s.peek32 (.cpu 0x00FE#16) = some 0x44332211#32 ∧
      s.fl.d = false ∧ { s with fl := flags false false true true true false false }.fl.d = true := by decide

/-- Witness for `Obligations.CmpqResult`: a quad that runs on past the base page. -/
theorem witness_CmpqResult :
    let s := poke s0 [(0x00FE#28, 0x11#8), (0x00FF#28, 0x22#8), (0x0100#28, 0x33#8), (0x0101#28, 0x44#8)]
    formOf (.cmpqBp 0xFE#8) = .compareQ (.bp 0xFE#8) 4 ∧ s.place (.bp 0xFE#8) = some (.cpu 0x00FE#16) ∧ s.peek32 (.cpu 0x00FE#16) = some 0x44332211#32 := by decide

/-- Witness for `Obligations.AndqEorqResult`: a quad that runs on past the base page. -/
theorem witness_AndqEorqResult :
    let s := poke s0 [(0x00FE#28, 0x11#8), (0x00FF#28, 0x22#8), (0x0100#28, 0x33#8), (0x0101#28, 0x44#8)]
    formOf (.andqBp 0xFE#8) = .aluQ .and (.bp 0xFE#8) 4 ∧ s.place (.bp 0xFE#8) = some (.cpu 0x00FE#16) ∧ s.peek32 (.cpu 0x00FE#16) = some 0x44332211#32 ∧
      formOf (.eorqBp 0xFE#8) = .aluQ .eor (.bp 0xFE#8) 4 ∧ formOf (.orqBp 0xFE#8) = .aluQ .ora (.bp 0xFE#8) 4 := by decide

/-- Witness for `Obligations.BitqResult`: a quad that runs on past the base page. -/
theorem witness_BitqResult :
    let s := poke s0 [(0x00FE#28, 0x11#8), (0x00FF#28, 0x22#8), (0x0100#28, 0x33#8), (0x0101#28, 0x44#8)]
    formOf (.bitqBp 0xFE#8) = .bitQ (.bp 0xFE#8) 4 ∧ s.place (.bp 0xFE#8) = some (.cpu 0x00FE#16) ∧ s.peek32 (.cpu 0x00FE#16) = some 0x44332211#32 := by decide

/-- Witness for `Obligations.QFlagsNotNamed`: an ALU form, CMPQ and BITQ that answer a next state. -/
theorem witness_QFlagsNotNamed :
    (∃ t, exec (.andqBp 0x20#8) s0 = .next t) ∧ (∃ t, exec (.cmpqBp 0x20#8) s0 = .next t) ∧
    (∃ t, exec (.bitqBp 0x20#8) s0 = .next t) ∧ formOf (.andqBp 0x20#8) = .aluQ .and (.bp 0x20#8) 4 ∧
    formOf (.cmpqBp 0x20#8) = .compareQ (.bp 0x20#8) 4 ∧ formOf (.bitqBp 0x20#8) = .bitQ (.bp 0x20#8) 4 := ⟨⟨_, rfl⟩, ⟨_, rfl⟩, ⟨_, rfl⟩, rfl, rfl, rfl⟩

/-- Witness for `Obligations.ChangeRegResult`: a shift of A and a step of Z. -/
theorem witness_ChangeRegResult :
    formOf .asrA = .changeReg (.shift .asr) .a 1 ∧ formOf .dez = .changeReg (.step false) .z 1 := by decide

/-- Witness for `Obligations.ChangeMemResult`: INC of the last byte of the base page. -/
theorem witness_ChangeMemResult :
    let s := poke s0 [(0x00FF#28, 0xFF#8)]
    formOf (.incBp 0xFF#8) = .changeMem (.step true) (.bp 0xFF#8) 2 ∧ s.place (.bp 0xFF#8) = some (.cpu 0x00FF#16) ∧
      s.peek (.cpu 0x00FF#16) = some 0xFF#8 ∧ s.ramAt (.cpu 0x00FF#16) = some 0x00000FF#28 := by decide

/-- Witness for `Obligations.BitMemResult`: one form of each operation, bits 0 and 7 included. -/
theorem witness_BitMemResult :
    let s := poke s0 [(0x00FF#28, 0xFF#8)]
    formOf (.tsbBp 0xFF#8) = .bitMem .tsb (.bp 0xFF#8) 2 ∧ formOf (.trbBp 0xFF#8) = .bitMem .trb (.bp 0xFF#8) 2 ∧
      formOf (.rmb0 0xFF#8) = .bitMem (.rmb 0) (.bp 0xFF#8) 2 ∧ formOf (.smb7 0xFF#8) = .bitMem (.smb 7) (.bp 0xFF#8) 2 ∧
      s.place (.bp 0xFF#8) = some (.cpu 0x00FF#16) ∧ s.peek (.cpu 0x00FF#16) = some 0xFF#8 ∧
      s.ramAt (.cpu 0x00FF#16) = some 0x00000FF#28 := by decide

/-- Witness for `Obligations.ChangeWordResult`: INW of a word that leaves the base page. -/
theorem witness_ChangeWordResult :
    let s := poke s0 [(0x00FF#28, 0xFF#8)]
    formOf (.inwBp 0xFF#8) = .changeWord (.step true) (.bp 0xFF#8) 2 ∧ s.place (.bp 0xFF#8) = some (.cpu 0x00FF#16) ∧
      s.peek16 (.cpu 0x00FF#16) = some 0x00FF#16 ∧ s.ramAt (.cpu 0x00FF#16) = some 0x00000FF#28 ∧
      s.ramAt ((Place.cpu 0x00FF#16).plus 1) = some 0x0000100#28 := by decide

/-- Witness for `Obligations.ChangeQResult`: a quad that runs on past the base page. -/
theorem witness_ChangeQResult :
    let s := poke s0 [(0x00FE#28, 0x11#8), (0x00FF#28, 0x22#8), (0x0100#28, 0x33#8), (0x0101#28, 0x44#8)]
    formOf (.inqBp 0xFE#8) = .changeMemQ (.step true) (.bp 0xFE#8) 4 ∧ s.place (.bp 0xFE#8) = some (.cpu 0x00FE#16) ∧ s.peek32 (.cpu 0x00FE#16) = some 0x44332211#32 ∧
      s.ramAt (.cpu 0x00FE#16) = some 0x00000FE#28 ∧ s.ramAt ((Place.cpu 0x00FE#16).plus 1) = some 0x00000FF#28 ∧
      s.ramAt ((Place.cpu 0x00FE#16).plus 2) = some 0x0000100#28 ∧ s.ramAt ((Place.cpu 0x00FE#16).plus 3) = some 0x0000101#28 ∧ formOf .aslqQ = .changeQ (.shift .asl) 3 := by decide

/-- Witness for `Obligations.DummyWrite`: INC, TSB and ASW at $D019, for both values of the parameter. -/
theorem witness_DummyWrite :
    let s := { s0io with answers := [0x81#8, 0x42#8] }
    (formOf (.incAbs 0xD019#16) = .changeMem (.step true) (.abs 0xD019#16) 3 ∧ formOf (.tsbAbs 0xD019#16) = .bitMem .tsb (.abs 0xD019#16) 3 ∧
      formOf (.aswAbs 0xD019#16) = .changeWord (.shift .asl) (.abs 0xD019#16) 3) ∧
    (s.place (.abs 0xD019#16) = some (.cpu 0xD019#16) ∧ s.target .read (.cpu 0xD019#16) = .phys 0xFFD3019#28 ∧
      s.target .write (.cpu 0xD019#16) = .phys 0xFFD3019#28 ∧ s.isDevice 0xFFD3019#28 = true) ∧
    (s.target .read ((Place.cpu 0xD019#16).plus 1) = .phys 0xFFD301A#28 ∧
      s.target .write ((Place.cpu 0xD019#16).plus 1) = .phys 0xFFD301A#28 ∧ s.isDevice 0xFFD301A#28 = true) ∧
    s.answers = [0x81#8, 0x42#8] ∧ s.cfg.rmw65ce02DummyWrite = false ∧
      { s with cfg := { s.cfg with rmw65ce02DummyWrite := true } }.cfg.rmw65ce02DummyWrite = true := by decide

/-- Witness for `Obligations.DummyWrite`: the same beside $D019. -/
theorem witness_DummyWrite_elsewhere :
    let s := { s0io with answers := [0x81#8, 0x42#8] }
    (formOf (.incAbs 0xD018#16) = .changeMem (.step true) (.abs 0xD018#16) 3 ∧ formOf (.tsbAbs 0xD018#16) = .bitMem .tsb (.abs 0xD018#16) 3 ∧
      formOf (.aswAbs 0xD018#16) = .changeWord (.shift .asl) (.abs 0xD018#16) 3) ∧
    (s.place (.abs 0xD018#16) = some (.cpu 0xD018#16) ∧ s.target .read (.cpu 0xD018#16) = .phys 0xFFD3018#28 ∧
      s.target .write (.cpu 0xD018#16) = .phys 0xFFD3018#28 ∧ s.isDevice 0xFFD3018#28 = true) ∧
    (s.target .read ((Place.cpu 0xD018#16).plus 1) = .phys 0xFFD3019#28 ∧
      s.target .write ((Place.cpu 0xD018#16).plus 1) = .phys 0xFFD3019#28 ∧ s.isDevice 0xFFD3019#28 = true) ∧
    s.answers = [0x81#8, 0x42#8] ∧ s.cfg.rmw65ce02DummyWrite = false ∧
      { s with cfg := { s.cfg with rmw65ce02DummyWrite := true } }.cfg.rmw65ce02DummyWrite = true := by decide

/-- Witness for `Obligations.DummyWrite`: INQ $D019: four device bytes and four answers. -/
theorem witness_DummyWrite_quad :
    let s := { s0io with answers := [0x81#8, 0x42#8, 0x00#8, 0xFF#8] }
    let device : Nat → Phys → Prop := fun k q => s.target .read ((Place.cpu 0xD019#16).plus k) = .phys q ∧
      s.target .write ((Place.cpu 0xD019#16).plus k) = .phys q ∧ s.isDevice q = true
    formOf (.inqAbs 0xD019#16) = .changeMemQ (.step true) (.abs 0xD019#16) 5 ∧
      s.place (.abs 0xD019#16) = some (.cpu 0xD019#16) ∧ device 0 0xFFD3019#28 ∧ device 1 0xFFD301A#28 ∧
      device 2 0xFFD301B#28 ∧ device 3 0xFFD301C#28 := by decide

/-- Witness for `Obligations.BranchResult`: a short and a word form. -/
theorem witness_BranchResult :
    formOf (.bplRel 0x80#8) = .branch .pl 0x80#8 2 ∧ formOf (.braRelW 0x8000#16) = .branchWord .always 0x8000#16 3 := by decide

/-- Witness for `Obligations.BranchBitResult`: bit 7 of the last byte of the base page. -/
theorem witness_BranchBitResult :
    formOf (.bbs7 0xFF#8 0x80#8) = .branchBit true 7 0xFF#8 0x80#8 3 ∧
    (poke s0 [(0x00FF#28, 0x80#8)]).peek (.cpu (s0.b ++ (0xFF#8 : Byte))) = some 0x80#8 := by decide

/-- Witness for `Obligations.JumpResult`: the three forms, a pointer across a page. -/
theorem witness_JumpResult :
    let s := poke { s0 with x := 0xFF#8 } [(0x12FF#28, 0x78#8), (0x1300#28, 0x56#8)]
    formOf (.jmpAbs 0x1234#16) = .jump (.abs 0x1234#16) 3 ∧ formOf (.jmpInd 0x12FF#16) = .jump (.ind 0x12FF#16) 3 ∧
      formOf (.jmpIndX 0x1200#16) = .jump (.indX 0x1200#16) 3 ∧
      s.peek (.cpu 0x12FF#16) = some (lowByte 0x5678#16) ∧ s.peek (.cpu (0x12FF#16 + 1#16)) = some (highByte 0x5678#16) ∧
      s.peek (.cpu (0x1200#16 + s.x.setWidth 16)) = some (lowByte 0x5678#16) ∧
      s.peek (.cpu (0x1200#16 + s.x.setWidth 16 + 1#16)) = some (highByte 0x5678#16) := by decide

/-- Witness for `Obligations.CallResult`: the three forms and BSR, the push wrapping inside the stack page. -/
theorem witness_CallResult :
    let s := poke { s0 with spl := 0x00#8 } [(0x12FF#28, 0x78#8), (0x1300#28, 0x56#8)]
    let ws := [((0x0000100#28 : Phys), highByte (s.pc + 2#16)), (0x00001FF#28, lowByte (s.pc + 2#16))]
    let u := ((s.advance 3).storeAll ws).withSp (s.spPlus 0xFFFE#16)
    s.ramAt (.cpu (s.sph ++ s.spl)) = some 0x0000100#28 ∧ s.ramAt (.cpu (s.spPlus 0xFFFF#16)) = some 0x00001FF#28 ∧
      formOf (.jsrAbs 0x1234#16) = .call (.abs 0x1234#16) 3 ∧ u.destination (.abs 0x1234#16) = some 0x1234#16 ∧
      formOf (.jsrInd 0x12FF#16) = .call (.ind 0x12FF#16) 3 ∧ u.destination (.ind 0x12FF#16) = some 0x5678#16 ∧
      formOf (.bsrRelW 0x000E#16) = .branchSub 0x000E#16 3 := by decide

/-- Witness for `Obligations.ReturnResult`: the stack pointer at the top of its page. -/
theorem witness_ReturnResult :
    let s := poke s0 [(0x0100#28, 0xB9#8), (0x0101#28, 0x02#8), (0x0102#28, 0x20#8)]
    s.peek (.cpu (s.spPlus 1#16)) = some 0xB9#8 ∧ s.peek (.cpu (s.spPlus 2#16)) = some 0x02#8 ∧
      s.peek (.cpu (s.spPlus 3#16)) = some 0x20#8 ∧ formOf .rts = .ret 0x00#8 1 ∧
      formOf (.rtsImm 0xFF#8) = .ret 0xFF#8 2 ∧ formOf .rti = .retInterrupt 1 := by decide

/-- Witness for `Obligations.BreakAndInterruptEntry`: the stack in RAM and both vectors plain. -/
theorem witness_BreakAndInterruptEntry :
    let s := poke s0 [(0xFFFA#28, 0x00#8), (0xFFFB#28, 0xA0#8), (0xFFFE#28, 0x00#8), (0xFFFF#28, 0x90#8)]
    let u : State := (s.storeAll [(0x00001FF#28, 0x20#8), (0x00001FE#28, 0x02#8), (0x00001FD#28, 0x34#8)]).withSp
      (s.spPlus 0xFFFD#16)
    s.ramAt (.cpu (s.sph ++ s.spl)) = some 0x00001FF#28 ∧ s.ramAt (.cpu (s.spPlus 0xFFFF#16)) = some 0x00001FE#28 ∧
      s.ramAt (.cpu (s.spPlus 0xFFFE#16)) = some 0x00001FD#28 ∧ u.peek16 (.cpu 0xFFFE#16) = some 0x9000#16 ∧
      u.peek16 (.cpu 0xFFFA#16) = some 0xA000#16 := by decide

/-- Witness for `Obligations.MapTranslation`: blocks 0, 3, 4 and 7 at their edges. -/
theorem witness_MapTranslation :
    let s := { s0 with map := { s0.map with loEn := 0xF#4, hiEn := 0xF#4, loOff := 0xFFF#12 } }
    (s.hyper = true ∨ s.d030 = 0x00#8) ∧ s.map.loEn.getLsbD ((0x0000#16 : Word).toNat / 8192) = true ∧
      (0x7FFF#16 : Word).toNat / 8192 < 4 ∧ s.map.loEn.getLsbD ((0x7FFF#16 : Word).toNat / 8192) = true ∧
      4 ≤ (0x8000#16 : Word).toNat / 8192 ∧ s.map.hiEn.getLsbD ((0x8000#16 : Word).toNat / 8192 - 4) = true ∧
      s.map.hiEn.getLsbD ((0xFFFF#16 : Word).toNat / 8192 - 4) = true := by decide

/-- Witness for `Obligations.C64BankingTranslation`: no block MAP-ped, so that every address of every range meets them. -/
theorem witness_C64BankingTranslation :
    (s0.hyper = true ∨ s0.d030 = 0x00#8) ∧ ∀ a : Word, s0.map.translate a = none := by refine ⟨by decide, fun a => ?_⟩; simp [s0, MapRegs.translate]

/-- Witness for `Obligations.VicBankingTranslation`: every row on, each range at its edges; and no row on. -/
theorem witness_VicBankingTranslation :
    let s := { s0io with d030 := 0xF9#8 }
    s.hyper = false ∧ [0, 3, 4, 5, 6, 7].all (fun k => s.d030.getLsbD k) = true ∧ s0io.hyper = false ∧
      [0, 3, 4, 5, 6, 7].all (fun k => !s0io.d030.getLsbD k) = true ∧
      s.translate .write 0xD800#16 = .colour 0x000#11 ∧ s.translate .read 0xDFFF#16 = .phys 0x0029FFF#28 ∧
      { s with d030 := 0x01#8 }.translate .read 0xDFFF#16 = .colour 0x7FF#11 ∧
      s.translate .read 0x8000#16 = .phys 0x0038000#28 ∧ s.translate .fetch 0xFFFF#16 = .phys 0x003FFFF#28 ∧
      s.translate .write 0xFFFF#16 = .phys 0x000FFFF#28 := by decide

/-- Witness for `Obligations.CpuRegisterStores`: each register, HREG at its first slot and the last of the layout. -/
theorem witness_CpuRegisterStores :
    (formOf (.staAbs 0x0000#16) = .store .a (.abs 0x0000#16) 3 ∧ s0io.place (.abs 0x0000#16) = some (.cpu 0x0000#16) ∧
      s0io.target .write (.cpu 0x0000#16) = .portDdr ∧ s0io.target .write (.cpu 0x0001#16) = .portData) ∧
    ({ s0io with d030 := 0x01#8 }.target .write (.cpu 0xDFFF#16) = .colour 0x7FF#11 ∧
      { s0io with d030 := 0x01#8 }.kindOf (colourWindow 0x7FF#11) = .ram ∧
      { s0io with d030 := 0x01#8 }.kindOf (colourRam 0x7FF#11) = .ram) ∧
    (s0io.target .write (.cpu 0xD030#16) = .phys 0xFFD3030#28 ∧ s0io.kindOf 0xFFD3030#28 = .io 0x030#12) ∧
    (s0io.target .write (.cpu 0xD7FA#16) = .phys 0xFFD37FA#28 ∧ s0io.kindOf 0xFFD37FA#28 = .io 0x7FA#12) ∧
    (s0io.target .write (.cpu 0xD640#16) = .phys 0xFFD3640#28 ∧
      s0io.kindOf 0xFFD3640#28 = .io (0x640#12 + (0x00#6 : BitVec 6).setWidth 12)) ∧
    (s0io.kindOf 0xFFD3652#28 = .io (0x640#12 + (0x12#6 : BitVec 6).setWidth 12) ∧ s0io.hregStored 0x00#6 = true ∧
      s0io.hregStored 0x12#6 = true ∧ s0io.ioMode = ioMega65 ∧ { s0io with hyper := true }.hyper = true) := by decide

/-- Witness for `Obligations.CpuRegisterStores`: both ends of the colour RAM in the I/O block. -/
theorem witness_CpuRegisterStores_colour :
    (s0io.target .write (.cpu 0xD800#16) = .phys 0xFFD3800#28 ∧
      s0io.kindOf 0xFFD3800#28 = .io (0x800#12 + (0x000#11 : BitVec 11).setWidth 12) ∧
      s0io.kindOf (colourWindow 0x000#11) = .ram ∧ s0io.kindOf (colourRam 0x000#11) = .ram) ∧
    s0io.target .write (.cpu 0xDBFF#16) = .phys 0xFFD3BFF#28 ∧
      s0io.kindOf 0xFFD3BFF#28 = .io (0x800#12 + (0x3FF#11 : BitVec 11).setWidth 12) ∧
      s0io.kindOf (colourWindow 0x3FF#11) = .ram ∧ s0io.kindOf (colourRam 0x3FF#11) = .ram := by decide

/-- Witness for `Obligations.PhysicalAccess`: a device, an unpopulated address, the ROM at both ends, the hypervisor memory in normal mode, a load and a store. -/
theorem witness_PhysicalAccess :
    let s := { s0io with answers := [0x81#8] }
    (s.kindOf 0xFFFFFFF#28 = .platform ∧ s.kindOf 0xFFD3019#28 = .io 0x019#12 ∧ s.ioReg 0x019#12 = .device) ∧
      (s.kindOf 0x0020000#28 = .rom ∧ s.kindOf 0x003FFFF#28 = .rom ∧ s.kindOf 0xFFF8000#28 = .hyperMem ∧
        s.kindOf 0xFFFBFFF#28 = .hyperMem) ∧
      (s.hyper = false ∧ s.answers = [0x81#8] ∧ s.cfg.romWritable = false ∧
        { s with cfg := { s.cfg with romWritable := true } }.cfg.romWritable = true) ∧
      (s.place (.abs 0xD019#16) = some (.cpu 0xD019#16) ∧ formOf (.staAbs 0xD019#16) = .store .a (.abs 0xD019#16) 3 ∧
        formOf (.ldaAbs 0xD019#16) = .load .a (.mem (.abs 0xD019#16)) 3 ∧
        s.target .read (.cpu 0xD019#16) = .phys 0xFFD3019#28 ∧ s.target .write (.cpu 0xD019#16) = .phys 0xFFD3019#28) := by decide

/-- Witness for `Obligations.SyscallAccess`: the first SYSCALL register. -/
theorem witness_SyscallAccess :
    (s0io.place (.abs 0xD640#16) = some (.cpu 0xD640#16) ∧
      s0io.kindOf 0xFFD3640#28 = .io (0x640#12 + (0x00#6 : BitVec 6).setWidth 12) ∧
      s0io.ioMode = ioMega65 ∧ s0io.hyper = false ∧ s0io.syscall = none) ∧
    formOf (.staAbs 0xD640#16) = .store .a (.abs 0xD640#16) 3 ∧ s0io.target .write (.cpu 0xD640#16) = .phys 0xFFD3640#28 ∧
    formOf (.ldaAbs 0xD640#16) = .load .a (.mem (.abs 0xD640#16)) 3 ∧ s0io.target .read (.cpu 0xD640#16) = .phys 0xFFD3640#28 := by decide

/-- Witness for `Obligations.SyscallAccess`: the last SYSCALL register. -/
theorem witness_SyscallAccess_last :
    (s0io.place (.abs 0xD67F#16) = some (.cpu 0xD67F#16) ∧
      s0io.kindOf 0xFFD367F#28 = .io (0x640#12 + (0x3F#6 : BitVec 6).setWidth 12) ∧
      s0io.ioMode = ioMega65 ∧ s0io.hyper = false ∧ s0io.syscall = none) ∧
    formOf (.staAbs 0xD67F#16) = .store .a (.abs 0xD67F#16) 3 ∧ s0io.target .write (.cpu 0xD67F#16) = .phys 0xFFD367F#28 ∧
    formOf (.ldaAbs 0xD67F#16) = .load .a (.mem (.abs 0xD67F#16)) 3 ∧ s0io.target .read (.cpu 0xD67F#16) = .phys 0xFFD367F#28 := by decide

/-- Witness for `Obligations.SyscallAccess`: STQ $D63F: a device, then SYSCALL registers 0, 1 and 2; and INC $D640. -/
theorem witness_SyscallAccess_quad :
    (formOf (.stqAbs 0xD63F#16) = .storeQ (.abs 0xD63F#16) 5 ∧ s0io.place (.abs 0xD63F#16) = some (.cpu 0xD63F#16) ∧
      s0io.target .write (.cpu 0xD63F#16) = .phys 0xFFD363F#28 ∧ s0io.isDevice 0xFFD363F#28 = true) ∧
    (s0io.target .write ((Place.cpu 0xD63F#16).plus 1) = .phys 0xFFD3640#28 ∧
      s0io.target .write ((Place.cpu 0xD63F#16).plus 2) = .phys 0xFFD3641#28 ∧
      s0io.target .write ((Place.cpu 0xD63F#16).plus 3) = .phys 0xFFD3642#28) ∧
    (s0io.kindOf 0xFFD3640#28 = .io (0x640#12 + (0x00#6 : BitVec 6).setWidth 12) ∧
      s0io.kindOf 0xFFD3641#28 = .io (0x640#12 + (0x01#6 : BitVec 6).setWidth 12) ∧
      s0io.kindOf 0xFFD3642#28 = .io (0x640#12 + (0x02#6 : BitVec 6).setWidth 12)) ∧
    s0io.hyper = false ∧ s0io.ioMode = ioMega65 ∧ (run [0xEE#8, 0x40#8, 0xD6#8] s0io).map (fun t => t.syscall) = some (some 0x00#6) := by decide

/-- Witness for `Obligations.SyscallAccess`: a write that touches SYSCALL register 63. -/
theorem witness_SyscallAccess_site :
    ((Ctx.of s0io).site .write (.cpu 0xD67F#16)).syscalls 0x3F#6 := ⟨.inl rfl, rfl, rfl, 0xFFD367F#28, by decide, by decide⟩

/-- Witness for `Obligations.TrapEntry`: well-formed parameters, a pending SYSCALL at a boundary, and both ends of $8000 to $BFFF. -/
theorem witness_TrapEntry :
    let s := { s0io with syscall := some 0x3F#6 }
    s.cfg.wf = true ∧ s.accept.syscall = some 0x3F#6 ∧ s.accept.resetLine = false ∧ s.accept.hyper = false ∧ s.accept.atEntry = false ∧
      0x8000 ≤ (0x8000#16 : Word).toNat ∧ (0xBFFF#16 : Word).toNat < 0xC000 := by decide

/-- Witness for `Obligations.TrapReturn`: a store to $D67F in hypervisor mode. -/
theorem witness_TrapReturn :
    let s := { s0io with hyper := true }
    formOf (.staAbs 0xD67F#16) = .store .a (.abs 0xD67F#16) 3 ∧ s.place (.abs 0xD67F#16) = some (.cpu 0xD67F#16) ∧
      s.target .write (.cpu 0xD67F#16) = .phys 0xFFD367F#28 ∧ s.kindOf 0xFFD367F#28 = .io 0x67F#12 ∧
      s.ioMode = ioMega65 ∧ s.hyper = true ∧ s.cfg.wf = true := by decide

/-- Witness for `Obligations.TrapReturn`: a write of $D67F in hypervisor mode that STQ $D67C makes as its last, and a marked return. -/
theorem witness_TrapReturn_site :
    let s := { s0io with hyper := true }
    ((Ctx.of s).site .write (.cpu 0xD67F#16)).exits ∧ ({ Ctx.of s with leave := true } : Ctx).leave = true ∧
      (run [0x42#8, 0x42#8, 0x8D#8, 0x7C#8, 0xD6#8] s).map (fun t => t.hyper) = some false := ⟨⟨rfl, rfl, rfl, 0xFFD367F#28, by decide, by decide⟩, rfl, by decide⟩

/-- Witness for `Obligations.StepKeepsInv`: a store from a state with memory. -/
theorem witness_StepKeepsInv :
    let s := poke s0 [(0x0010#28, 0xFF#8)]
    Inv (s.placeBytes s.pc [0x8D#8, 0x00#8, 0x30#8]) ∧ (run [0x8D#8, 0x00#8, 0x30#8] s).isSome = true := ⟨⟨by decide, by decide, by decide⟩, by decide⟩

/-- Witness for `Obligations.HypervisorMemoryKept`: a store in normal mode, and an address of the hypervisor memory. -/
theorem witness_HypervisorMemoryKept :
    s0.inHyper 0xFFF8000#28 = true ∧ s0.inHyper 0xFFFBFFF#28 = true ∧
    (s0.placeBytes s0.pc [0x8D#8, 0x00#8, 0x30#8]).hyper = false ∧ (run [0x8D#8, 0x00#8, 0x30#8] s0).isSome = true := by decide

/-- Witness for `Obligations.EnteringHypervisor`: a pending SYSCALL in normal mode. -/
theorem witness_EnteringHypervisor :
    let s := { s0io with syscall := some 0x3F#6 }
    (s.placeBytes s.pc [0xE8#8]).hyper = false ∧ (run [0xE8#8] s).map (fun t => t.hyper) = some true := by decide

/-- Witness for `Obligations.LeavingHypervisor`: STA $D67F in hypervisor mode, RTI there, and INX in normal mode. -/
theorem witness_LeavingHypervisor :
    let s := { s0io with hyper := true }
    (run [0x40#8] s).map (fun t => t.hyper) = some true ∧ formOf .rti = .retInterrupt 1 ∧
      (run [0xE8#8] s0io).map (fun t => t.hyper) = some false ∧ (s.placeBytes s.pc [0x8D#8, 0x7F#8, 0xD6#8]).hyper = true ∧
      (run [0x8D#8, 0x7F#8, 0xD6#8] s).map (fun t => t.hyper) = some false := by decide

/-- Witness for `Obligations.FetchNeverTraps`: a fetch from $D640. -/
theorem witness_FetchNeverTraps :
    let s := { s0io with pc := 0xD640#16, answers := [0xEA#8, 0x00#8] }
    ∃ b t, (b, t) ∈ fetchBytes 2 0xD640#16 s := ⟨_, _, List.Mem.head _⟩
end Sys2Proof.Tests

end
end

/-! What a step with no event runs (`00_scope.md` R13): a fetch of a plain byte gives it and changes nothing (R66, R114),
so a window of plain bytes leaves the state alone, and the step is `exec` of the decoded instruction. -/

namespace Sys2Proof.Machine

/-! ### Fetching plain bytes -/

theorem Ctx.physRead_fetch_of_readCell {s : State} {p : Phys} {v : Byte} (hio : ∀ off, s.kindOf p ≠ .io off)
    (h : s.readCell p = some v) : (Ctx.of s).physRead .fetch p = (v, Ctx.of s) := by
  have hcell : (Ctx.of s).readCell p = (v, Ctx.of s) := Ctx.readCell_of_readCell h
  cases hk : s.kindOf p with
  | io off => exact absurd hk (hio off)
  | hyperMem | rom | ram | platform => simp only [Ctx.physRead, Ctx.of_st, hk, hcell]

theorem State.codeByte_of_phys {s : State} {a : Word} {p : Phys} {v : Byte} (ht : s.translate .fetch a = .phys p)
    (h : s.codeByte a = some v) : (∀ off, s.kindOf p ≠ .io off) ∧ s.readCell p = some v := by
  cases hk : s.kindOf p with
  | io off => simp only [State.codeByte, ht, hk, reduceCtorEq] at h
  | hyperMem | rom | ram | platform =>
    simp only [State.codeByte, ht, hk] at h
    exact ⟨fun _ => nofun, h⟩

theorem Ctx.readTarget_fetch_of_codeByte {s : State} {a : Word} {v : Byte} (h : s.codeByte a = some v) :
    (Ctx.of s).readTarget .fetch (s.translate .fetch a) = (v, Ctx.of s) := by
  cases ht : s.translate .fetch a with
  | phys p =>
    obtain ⟨hio, hcell⟩ := State.codeByte_of_phys ht h
    exact Ctx.physRead_fetch_of_readCell hio hcell
  | portDdr =>
    simp only [State.codeByte, ht, Option.some.injEq] at h
    exact congrArg (·, Ctx.of s) h
  | portData =>
    simp only [State.codeByte, ht, Option.some.injEq] at h
    exact congrArg (·, Ctx.of s) h
  | colour k =>
    simp only [State.codeByte, ht] at h
    exact Ctx.readCell_of_readCell (c := Ctx.of s) h

@[simp] theorem fetchBytes_succ (n : Nat) (a : Word) (s : State) :
    fetchBytes (n + 1) a s =
      (((Ctx.of s).readTarget .fetch (s.translate .fetch a)).1,
        ((Ctx.of s).readTarget .fetch (s.translate .fetch a)).2.st) ::
      fetchBytes n (a + 0x0001#16) ((Ctx.of s).readTarget .fetch (s.translate .fetch a)).2.st := rfl

theorem State.codeAt_cons (s : State) (a : Word) (b : Byte) (bs : List Byte) :
    s.codeAt a (b :: bs) = true ↔ s.codeByte a = some b ∧ s.codeAt (a + 0x0001#16) bs = true := by
  simp only [State.codeAt, Bool.and_eq_true, beq_iff_eq]

/-- A plain first byte is what the fetch gives, and the fetch of the others starts from the same state. -/
theorem fetchBytes_succ_of_codeByte {s : State} {a : Word} {v : Byte} (h : s.codeByte a = some v) (n : Nat) :
    fetchBytes (n + 1) a s = (v, s) :: fetchBytes n (a + 0x0001#16) s := by
  simp only [fetchBytes_succ, Ctx.readTarget_fetch_of_codeByte h, Ctx.of_st]

/-- Fetching plain bytes changes nothing. -/
theorem state_of_mem_fetchBytes_of_codeAt {s t : State} {b : Byte} {n : Nat} {a : Word}
    (hcode : s.codeAt a ((fetchBytes n a s).map Prod.fst) = true) (hmem : (b, t) ∈ fetchBytes n a s) : t = s := by
  induction n generalizing a with
  | zero => cases hmem
  | succ n ih =>
    obtain ⟨hfirst, -⟩ := (State.codeAt_cons ..).mp hcode
    rw [fetchBytes_succ_of_codeByte hfirst] at hcode hmem
    obtain ⟨-, hrest⟩ := (State.codeAt_cons ..).mp hcode
    obtain heq | hlater := List.mem_cons.mp hmem
    · exact congrArg Prod.snd heq
    · exact ih hrest hlater

/-! ### From a step to `exec` -/

theorem State.instruction_of_decode {s t : State} {i : Instr} {b : Byte} {rest : List Byte}
    (hdec : decode (s.window.map Prod.fst) = .ok (i, rest)) (hlast : s.window[4 - rest.length]? = some (b, t)) :
    s.instruction = exec i t := by
  have hindex : s.window[windowLength - 1 - rest.length]? = some (b, t) := hlast
  simp only [State.instruction, hdec, hindex]

theorem State.run_eq_instruction {s : State} (h : s.cfg.personality = .p4510 ∨ s.hyper = true) :
    s.run = s.instruction := by
  have hruns : ¬ (s.cfg.personality = .p6502 ∧ s.hyper = false) := by
    rintro ⟨hp, hh⟩
    obtain h | h := h
    · cases hp.symm.trans h
    · cases hh.symm.trans h
  exact if_neg hruns

theorem step_of_no_event {s : State} (h : s.accept.eventNow = none) :
    step s = State.run { s.accept with atEntry := false } := by
  simp only [step, h]

/-- Settles O6: the boundary, the personality and the decoder each take their one branch; the fetch of plain bytes keeps
the state by induction on their number. -/
theorem stepRunsDecoded : Obligations.StepRunsDecoded := by
  intro s t i b rest hevent u hruns hdec hlast
  constructor
  · calc step s = u.run := step_of_no_event hevent
      _ = u.instruction := State.run_eq_instruction hruns
      _ = exec i t := State.instruction_of_decode hdec hlast
  · intro hcode
    exact state_of_mem_fetchBytes_of_codeAt hcode (List.mem_of_getElem? hlast)

end Sys2Proof.Machine

/-! Stores to the registers inside the CPU and to the colour RAM (`10_state.md` R41 to R44, `20_memory.md` R68, R74):
which register an offset of the I/O block is, what a byte written there changes, and that a store is that one write; and the
state after reset (R49). -/

namespace Sys2Proof.Machine

/-! ### Bytes stored -/

/-- Bytes stored in order read back as `Writes` says, and no other byte changes. -/
theorem State.writes_storeAll {s t : State} (h : t.mem = s.mem) (ws : List (Phys × Byte)) :
    Writes s (t.storeAll ws) ws := by
  intro a
  rw [← h]
  clear h
  induction ws generalizing t with
  | nil => rfl
  | cons w ws ih =>
    calc Memory.read ((t.setCell w.1 w.2).storeAll ws).mem a
        = ws.foldl (fun v w => if a = w.1.toNat then w.2 else v) (Memory.read (t.setCell w.1 w.2).mem a) := ih
      _ = _ := by rw [State.setCell_mem, Memory.read_write, List.foldl_cons]

theorem Ctx.writeCell_of_ram {c : Ctx} {p : Phys} (h : c.st.kindOf p = .ram) (v : Byte) :
    c.writeCell p v = c.upd fun s => s.setCell p v := by
  simp only [Ctx.writeCell, State.writeCell, h, Ctx.upd]

/-- A byte of the colour RAM is stored in both regions (R68). -/
theorem Ctx.colourWrite_of_ram {c : Ctx} {k : BitVec 11} (hwindow : c.st.kindOf (colourWindow k) = .ram)
    (hram : c.st.kindOf (colourRam k) = .ram) (v : Byte) :
    c.colourWrite k v = c.upd fun s => s.storeAll [(colourWindow k, v), (colourRam k, v)] := by
  rw [Ctx.colourWrite, Ctx.writeCell_of_ram hwindow, Ctx.writeCell_of_ram (by exact hram)]
  rfl

/-! ### Which register an offset is -/

theorem State.ioReg_speedBias {s : State} (h : s.ioMode = ioMega65) : s.ioReg 0x7FA#12 = .speedBias := by
  rw [State.ioReg, if_neg fun hvirt => absurd hvirt.2 (by decide), if_pos ⟨h, rfl⟩]

theorem State.ioReg_d030 (s : State) : s.ioReg 0x030#12 = .d030 := by
  rw [State.ioReg, if_neg fun hvirt => absurd hvirt.2 (by decide), if_neg fun hbias => absurd hbias.2 (by decide),
    if_pos rfl]

theorem colour_offset_toNat {k : BitVec 11} (h : k.toNat < 0x400) :
    (0x800#12 + k.setWidth 12).toNat = 0x800 + k.toNat := by
  rw [BitVec.toNat_add, BitVec.toNat_setWidth, BitVec.toNat_ofNat]
  omega

theorem State.ioReg_colour (s : State) {k : BitVec 11} (h : k.toNat < 0x400) :
    s.ioReg (0x800#12 + k.setWidth 12) = .colour k := by
  have hoff := colour_offset_toNat h
  generalize 0x800#12 + k.setWidth 12 = off at hoff
  have hvirt : off.extractLsb' 6 6 ≠ 0x19#6 := by
    rw [← BitVec.toNat_ne_iff_ne, BitVec.extractLsb'_toNat, Nat.shiftRight_eq_div_pow, hoff, BitVec.toNat_ofNat]
    omega
  have hbias : off ≠ 0x7FA#12 := by rintro rfl; rw [BitVec.toNat_ofNat] at hoff; omega
  have hd030 : off ≠ 0x030#12 := by rintro rfl; rw [BitVec.toNat_ofNat] at hoff; omega
  have hblock : off.extractLsb' 10 2 = 0x2#2 := by
    apply BitVec.eq_of_toNat_eq
    rw [BitVec.extractLsb'_toNat, Nat.shiftRight_eq_div_pow, hoff, BitVec.toNat_ofNat]
    omega
  have hbyte : off.extractLsb' 0 11 = k := by
    apply BitVec.eq_of_toNat_eq
    rw [BitVec.extractLsb'_toNat, Nat.shiftRight_zero, hoff]
    omega
  rw [State.ioReg, if_neg fun h => hvirt h.2, if_neg fun h => hbias h.2, if_neg hd030, if_pos hblock, hbyte]

/-! ### A byte written to the port, to the I/O block, to the colour RAM -/

theorem Ctx.write8_of_portDdr {c : Ctx} {pl : Place} (h : c.st.target .write pl = .portDdr) (v : Byte) :
    c.write8 pl v = c.upd fun s => { s with portDdr := v } := by
  simp only [Ctx.write8, h, Ctx.writeTarget]

theorem Ctx.write8_of_portData {c : Ctx} {pl : Place} (h : c.st.target .write pl = .portData) (v : Byte) :
    c.write8 pl v = c.upd fun s => { s with portData := v } := by
  simp only [Ctx.write8, h, Ctx.writeTarget]

theorem Ctx.write8_of_colour {c : Ctx} {pl : Place} {k : BitVec 11} (h : c.st.target .write pl = .colour k) (v : Byte) :
    c.write8 pl v = c.colourWrite k v := by
  simp only [Ctx.write8, h, Ctx.writeTarget]

theorem Ctx.write8_of_io {c : Ctx} {pl : Place} {p : Phys} {off : BitVec 12} (ht : c.st.target .write pl = .phys p)
    (hk : c.st.kindOf p = .io off) (v : Byte) : c.write8 pl v = c.ioWrite off p v := by
  simp only [Ctx.write8, ht, Ctx.writeTarget, Ctx.physWrite, hk]

theorem Ctx.ioWrite_speedBias {c : Ctx} (h : c.st.ioMode = ioMega65) (p : Phys) (v : Byte) :
    c.ioWrite 0x7FA#12 p v = c.upd fun s => { s with speedBias := v } := by
  simp only [Ctx.ioWrite, State.ioReg_speedBias h]

theorem Ctx.ioWrite_d030 (p : Phys) (v : Byte) (c : Ctx) :
    c.ioWrite 0x030#12 p v = c.upd fun s => { s with d030 := v, trace := .write p v :: s.trace } := by
  simp only [Ctx.ioWrite, State.ioReg_d030]
  rfl

theorem Ctx.ioWrite_colour {k : BitVec 11} (h : k.toNat < 0x400) (p : Phys) (v : Byte) (c : Ctx) :
    c.ioWrite (0x800#12 + k.setWidth 12) p v = c.colourWrite k v := by
  simp only [Ctx.ioWrite, State.ioReg_colour _ h]

theorem Ctx.ioWrite_virt {c : Ctx} (h : c.st.ioMode = ioMega65) (n : BitVec 6) (p : Phys) (v : Byte) :
    c.ioWrite (0x640#12 + n.setWidth 12) p v = c.virtWrite n p v := by
  simp only [Ctx.ioWrite, (State.ioReg_virt ..).mpr ⟨h, rfl⟩]

/-- In hypervisor mode a slot whose content is given, other than the exit, is only stored (R74). -/
theorem Ctx.virtWrite_of_stored {c : Ctx} {n : BitVec 6} (hhyper : c.st.hyper = true) (hstored : c.st.hregStored n = true)
    (hexit : n ≠ hregExit) (p : Phys) (v : Byte) : c.virtWrite n p v = c.upd fun s => s.setHreg n v := by
  have hstored' : (c.upd fun s => s.setHreg n v).st.hregStored n = true := hstored
  simp only [Ctx.virtWrite, if_pos hhyper, if_neg hexit, if_pos hstored']

/-! ### A store is one write -/

@[simp] theorem State.advance_kindOf (s : State) (n : Nat) (p : Phys) : (s.advance n).kindOf p = s.kindOf p := rfl
@[simp] theorem State.advance_target (s : State) (n : Nat) (acc : Access) (pl : Place) :
    (s.advance n).target acc pl = s.target acc pl := rfl

/-- Moving PC past the instruction does not change where its byte goes. -/
theorem Ctx.write8_advance_of_io {s : State} {pl : Place} {p : Phys} {off : BitVec 12}
    (htarget : s.target .write pl = .phys p) (hkind : s.kindOf p = .io off) (len : Nat) (v : Byte) :
    (Ctx.of (s.advance len)).write8 pl v = (Ctx.of (s.advance len)).ioWrite off p v :=
  Ctx.write8_of_io (by rw [Ctx.of_st, State.advance_target, htarget]) (by rw [Ctx.of_st, State.advance_kindOf, hkind]) v

section
variable {i : Instr} {s : State} {r : Reg} {m : MemMode} {len : Nat} {pl : Place}
  (hform : formOf i = .store r m len) (hplace : s.place m = some pl)
include hform hplace

theorem exec_store_of_place : exec i s = ((Ctx.of (s.advance len)).write8 pl (s.reg r)).done := by
  have hea : (Ctx.start len s).ea m = (pl, Ctx.start len s) := Ctx.ea_of_place hplace
  have hreg : (s.advance len).reg r = s.reg r := by cases r <;> rfl
  rw [exec_form, hform, Form.run, State.store, hea]
  simp only [Ctx.start_eq, Ctx.of_st, hreg]

/-- A store whose byte is written by an update of the state ends in the updated state. -/
theorem exec_store_of_upd {f : State → State}
    (hwrite : (Ctx.of (s.advance len)).write8 pl (s.reg r) = (Ctx.of (s.advance len)).upd f) :
    exec i s = .next (f (s.advance len)) := by
  rw [exec_store_of_place hform hplace, hwrite, Ctx.upd_of, Ctx.done_of]

/-- A byte stored in both regions of the colour RAM. -/
theorem exec_store_of_colourWrite {k : BitVec 11}
    (hwrite : (Ctx.of (s.advance len)).write8 pl (s.reg r) = (Ctx.of (s.advance len)).colourWrite k (s.reg r))
    (hwindow : s.kindOf (colourWindow k) = .ram) (hram : s.kindOf (colourRam k) = .ram) :
    exec i s = .next ((s.advance len).storeAll [(colourWindow k, s.reg r), (colourRam k, s.reg r)]) ∧
      Writes s ((s.advance len).storeAll [(colourWindow k, s.reg r), (colourRam k, s.reg r)])
        [(colourWindow k, s.reg r), (colourRam k, s.reg r)] :=
  ⟨exec_store_of_upd hform hplace (hwrite.trans (Ctx.colourWrite_of_ram (c := .of (s.advance len)) hwindow hram _)),
    State.writes_storeAll rfl _⟩

end

/-- Settles O48: a store is one byte written at its address, and each register takes that byte by its own rule. -/
theorem cpuRegisterStores : Obligations.CpuRegisterStores := by
  intro i s r m len pl hform hplace v t
  refine ⟨fun htarget => ?_, fun htarget => ?_, fun k htarget hwindow hram => ?_, fun p off htarget hkind => ?_⟩
  · exact exec_store_of_upd hform hplace (Ctx.write8_of_portDdr htarget _)
  · exact exec_store_of_upd hform hplace (Ctx.write8_of_portData htarget _)
  · exact exec_store_of_colourWrite hform hplace (Ctx.write8_of_colour htarget _) hwindow hram
  · have hwrite := Ctx.write8_advance_of_io htarget hkind len v
    refine ⟨?d030, ?speedBias, ?colour, ?hreg⟩
    case d030 =>
      rintro rfl
      exact exec_store_of_upd hform hplace (hwrite.trans (Ctx.ioWrite_d030 ..))
    case speedBias =>
      rintro rfl hmode
      exact exec_store_of_upd hform hplace (hwrite.trans (Ctx.ioWrite_speedBias hmode ..))
    case colour =>
      rintro k hk rfl hwindow hram
      exact exec_store_of_colourWrite hform hplace (hwrite.trans (Ctx.ioWrite_colour hk ..)) hwindow hram
    case hreg =>
      rintro n rfl hmode hhyper hstored hexit
      have hvirt : (Ctx.of t).virtWrite n p v = (Ctx.of t).upd fun s => s.setHreg n v :=
        Ctx.virtWrite_of_stored hhyper hstored hexit p v
      exact exec_store_of_upd hform hplace (hwrite.trans ((Ctx.ioWrite_virt hmode ..).trans hvirt))

/-! ### The state after reset -/

/-- In hypervisor mode no VIC-III row applies, so an address in an enabled block goes where MAP sends it (R66, D9). -/
theorem State.translate_of_hyper_of_map {s : State} {a : Word} {p : Phys} (hhyper : s.hyper = true)
    (hmap : s.map.translate a = some p) (acc : Access) : s.translate acc a = .phys p := by
  simp only [State.translate, hhyper, if_true, hmap]

/-- Settles O54: the registers are the fields of `State.reset`, and MAP sends both ends of the hypervisor window to the
ends of the hypervisor memory. -/
theorem resetState : Obligations.ResetState := by
  have hfirst : State.reset.map.translate 0x8000#16 = some State.reset.cfg.hyperBase := by decide
  have hlast : State.reset.map.translate 0xBFFF#16 = some (State.reset.cfg.hyperBase + 0x3FFF#28) := by decide
  exact ⟨rfl, rfl, rfl, rfl, rfl, rfl, rfl, rfl, rfl, rfl, rfl, State.translate_of_hyper_of_map rfl hfirst .fetch,
    State.translate_of_hyper_of_map rfl hlast .fetch⟩

end Sys2Proof.Machine

/-! What a step does to memory, said once (`20_memory.md` R60, R71, R72, R86): it stores bytes one at a time, in normal mode
none of them in the hypervisor memory, and it keeps the parameters. The invariant and the hypervisor memory's protection
follow by induction over the bytes stored; and what a fetch can change (R74, D32). -/

namespace Sys2Proof.Machine

/-! ### Bytes stored one at a time -/

/-- Where the machine can store a byte: anywhere in hypervisor mode, outside the hypervisor memory in normal mode (R72). -/
def State.mayStore (s : State) (p : Phys) : Prop := s.hyper = true ∨ s.inHyper p = false

/-- One byte stored where the machine can store it. -/
def State.StoresByte (s : State) (m m' : List Host.Cell) : Prop :=
  ∃ (p : Phys) (v : Byte), s.mayStore p ∧ m' = Memory.write m p.toNat v

/-- `t` has the memory of `s` after bytes stored, and the parameters of `s`. -/
structure Stored (s t : State) : Prop where
  cfg : t.cfg = s.cfg
  mem : Relation.ReflTransGen s.StoresByte s.mem t.mem

/-- `Stored`, in the same mode: what holds between any two moments inside an instruction. -/
structure StoredInMode (s t : State) : Prop extends Stored s t where
  hyper : t.hyper = s.hyper

theorem StoredInMode.of_same {s t : State} (hcfg : t.cfg = s.cfg := by rfl) (hmem : t.mem = s.mem := by rfl)
    (hhyper : t.hyper = s.hyper := by rfl) : StoredInMode s t := ⟨⟨hcfg, hmem ▸ .refl⟩, hhyper⟩

theorem StoredInMode.refl (s : State) : StoredInMode s s := .of_same

theorem State.StoresByte.of_same {s t : State} (hcfg : t.cfg = s.cfg) (hhyper : t.hyper = s.hyper) :
    t.StoresByte = s.StoresByte := by
  unfold State.StoresByte State.mayStore State.inHyper
  rw [hcfg, hhyper]

/-- Bytes stored after others from the same mode. -/
theorem StoredInMode.stored_trans {s t u : State} (h : StoredInMode s t) (h' : Stored t u) : Stored s u where
  cfg := h'.cfg.trans h.cfg
  mem := h.mem.trans (State.StoresByte.of_same h.cfg h.hyper ▸ h'.mem)

theorem StoredInMode.trans {s t u : State} (h : StoredInMode s t) (h' : StoredInMode t u) : StoredInMode s u :=
  ⟨h.stored_trans h'.toStored, h'.hyper.trans h.hyper⟩

theorem StoredInMode.setCell {s : State} {p : Phys} (h : s.mayStore p) (v : Byte) : StoredInMode s (s.setCell p v) :=
  ⟨⟨rfl, .single ⟨p, v, h, rfl⟩⟩, rfl⟩

/-! ### Every write -/

/-- An address of another kind is outside the hypervisor memory. -/
theorem State.inHyper_of_kindOf_ne {s : State} {p : Phys} (h : s.kindOf p ≠ .hyperMem) : s.inHyper p = false := by
  by_contra hin
  exact h (if_pos (Bool.not_eq_false _ ▸ hin))

/-- A byte that memory takes is stored, or dropped. -/
theorem State.writeCell_stored {s t : State} {p : Phys} {v : Byte} (h : s.writeCell p v = some t) : StoredInMode s t := by
  have hstore (hne : s.kindOf p ≠ .hyperMem) := StoredInMode.setCell (.inr (State.inHyper_of_kindOf_ne hne)) v
  unfold State.writeCell at h
  cases hk : s.kindOf p with
  | ram =>
    simp only [hk, Option.some.injEq] at h
    exact h ▸ hstore (by simp [hk])
  | rom =>
    simp only [hk, Option.some.injEq] at h
    subst h
    split
    · exact hstore (by simp [hk])
    · exact .refl s
  | hyperMem =>
    simp only [hk, Option.some.injEq] at h
    subst h
    split
    · exact .setCell (.inl ‹_›) v
    · exact .refl s
  | io | platform => simp [hk] at h

theorem Ctx.writeCell_stored (p : Phys) (v : Byte) (c : Ctx) : StoredInMode c.st (c.writeCell p v).st := by
  unfold Ctx.writeCell
  split
  · exact State.writeCell_stored ‹_›
  · exact .of_same

theorem Ctx.colourWrite_stored (k : BitVec 11) (v : Byte) (c : Ctx) : StoredInMode c.st (c.colourWrite k v).st :=
  (Ctx.writeCell_stored ..).trans (Ctx.writeCell_stored ..)

theorem Ctx.virtWrite_stored (n : BitVec 6) (p : Phys) (v : Byte) (c : Ctx) :
    StoredInMode c.st (c.virtWrite n p v).st := by
  unfold Ctx.virtWrite
  dsimp only
  split
  · split
    · exact .of_same
    · split <;> exact .of_same
  · exact .of_same

theorem Ctx.ioWrite_stored (off : BitVec 12) (p : Phys) (v : Byte) (c : Ctx) :
    StoredInMode c.st (c.ioWrite off p v).st := by
  unfold Ctx.ioWrite
  split
  · exact Ctx.virtWrite_stored ..
  · exact .of_same
  · exact Ctx.colourWrite_stored ..
  · exact .of_same
  · exact .of_same

theorem Ctx.writeTarget_stored (t : Target) (v : Byte) (c : Ctx) : StoredInMode c.st (c.writeTarget t v).st := by
  cases t with
  | phys p =>
    show StoredInMode c.st (c.physWrite p v).st
    unfold Ctx.physWrite
    split
    · exact Ctx.ioWrite_stored ..
    · exact Ctx.writeCell_stored ..
  | portDdr => exact .of_same
  | portData => exact .of_same
  | colour k => exact Ctx.colourWrite_stored ..

/-! ### Every instruction and every event -/

theorem ReadFrame.stored {c c' : Ctx} (h : ReadFrame c c') : StoredInMode c.st c'.st := by
  obtain ⟨_, _, _, _, rfl⟩ := h
  exact .of_same

theorem CpuOnly.stored {s t : State} (h : CpuOnly s t) : StoredInMode s t := by
  rw [h]
  exact .of_same

theorem closed_stored : Closed fun c c' => StoredInMode c.st c'.st where
  refl c := .refl c.st
  trans := .trans
  upd c _ h := (h c.st).stored
  read acc t c := (c.readTarget_frame acc t).stored
  write t v c := c.writeTarget_stored t v

theorem State.trapReturn_stored (s : State) : Stored s s.trapReturn := ⟨rfl, .refl⟩

/-- The end of an instruction changes the mode at most. -/
theorem Ctx.finish_stored {s : State} {c : Ctx} (h : StoredInMode s c.st) : Stored s c.finish := by
  unfold Ctx.finish
  split
  · exact h.stored_trans c.st.trapReturn_stored
  · exact h.toStored

theorem exec_stored {i : Instr} {s t : State} (h : exec i s = .next t) : Stored s t := by
  obtain ⟨c, hc, rfl⟩ := exec_reaches closed_stored i s t h
  exact Ctx.finish_stored hc

theorem StoredInMode.trapEnter {s t : State} (h : StoredInMode s t) (n : BitVec 7) : Stored s (t.trapEnter n) :=
  h.stored_trans ⟨by simp, by simp [Relation.ReflTransGen.refl]⟩

theorem StoredInMode.interrupt {s t : State} (h : StoredInMode s t) (vector ret : Word) (brk : Bool) :
    Stored s ((Ctx.of t).interrupt vector ret brk).finish :=
  Ctx.finish_stored (h.trans (closed_stored.interrupt vector ret brk (Ctx.of t)))

theorem State.take_stored (e : Event) (s : State) : Stored s (s.take e) := by
  cases e with
  | reset | syscall | trap => exact StoredInMode.trapEnter .of_same _
  | nmi | irq => exact StoredInMode.interrupt .of_same ..

/-! ### DMA and the platform's input (R86) -/

theorem State.putCell_stored (p : Phys) (v : Byte) (s : State) : StoredInMode s (s.putCell p v) := by
  unfold State.putCell
  cases h : s.writeCell p v with
  | some t => exact State.writeCell_stored h
  | none => exact .refl s

theorem State.dmaWrite_stored (s : State) (pv : Phys × Byte) : StoredInMode s (s.dmaWrite pv) := by
  unfold State.dmaWrite
  split
  · unfold State.dmaIo
    split
    · split <;> exact .of_same
    · exact .of_same
    · exact .of_same
    · exact (State.putCell_stored ..).trans (State.putCell_stored ..)
    · exact .refl s
  · exact State.putCell_stored ..

theorem State.dma_stored (s : State) (job : List (Phys × Byte)) : StoredInMode s (job.foldl State.dmaWrite s) := by
  induction job generalizing s with
  | nil => exact .refl s
  | cons pv job ih => exact (s.dmaWrite_stored pv).trans (ih _)

theorem State.accept_stored (s : State) : StoredInMode s s.accept := by
  unfold State.accept
  split
  · exact .refl s
  · rename_i i rest _
    have hjob : StoredInMode s (i.dma.foldl State.dmaWrite { s with inputs := rest }) :=
      (StoredInMode.of_same).trans (State.dma_stored { s with inputs := rest } i.dma)
    exact hjob.trans .of_same

/-! ### Fetching -/

/-- All that a fetch can change: the platform's answers and trace, and the free-value counter. -/
def FetchFrame (s t : State) : Prop := t = { s with answers := t.answers, trace := t.trace, free := t.free }

theorem FetchFrame.trans {s t u : State} (h : FetchFrame s t) (h' : FetchFrame t u) : FetchFrame s u := by
  unfold FetchFrame at *
  rw [h', h]

theorem FetchFrame.stored {s t : State} (h : FetchFrame s t) : StoredInMode s t := by
  rw [h]
  exact .of_same

theorem Ctx.readTarget_fetch_syscall (t : Target) (c : Ctx) : (c.readTarget .fetch t).2.st.syscall = c.st.syscall := by
  cases t with
  | phys p =>
    show (c.physRead .fetch p).2.st.syscall = c.st.syscall
    unfold Ctx.physRead
    split
    · unfold Ctx.ioRead
      split
      · exact Ctx.answer_syscall ..
      · rfl
      · exact Ctx.readCell_syscall ..
      · exact Ctx.answer_syscall ..
      · exact Ctx.answer_syscall ..
    · exact Ctx.readCell_syscall ..
  | portDdr => rfl
  | portData => rfl
  | colour k => exact Ctx.readCell_syscall ..

theorem Ctx.readTarget_fetch_frame (t : Target) (c : Ctx) : FetchFrame c.st (c.readTarget .fetch t).2.st := by
  have hsyscall := c.readTarget_fetch_syscall t
  obtain ⟨an, fr, tr, sy, hframe⟩ := c.readTarget_frame .fetch t
  rw [hframe] at hsyscall ⊢
  obtain rfl : sy = c.st.syscall := hsyscall
  rfl

theorem fetchBytes_frame {s t : State} {n : Nat} {a : Word} {b : Byte} (h : (b, t) ∈ fetchBytes n a s) :
    FetchFrame s t := by
  induction n generalizing a s with
  | zero => cases h
  | succ n ih =>
    have hfirst := (Ctx.of s).readTarget_fetch_frame (s.translate .fetch a)
    obtain heq | hlater := List.mem_cons.mp (fetchBytes_succ n a s ▸ h)
    · obtain rfl : t = _ := congrArg Prod.snd heq
      exact hfirst
    · exact hfirst.trans (ih hlater)

/-- Settles O60, by induction on the number of bytes: no fetch of one byte reaches a SYSCALL register's touch. -/
theorem fetchNeverTraps : Obligations.FetchNeverTraps := by
  intro s t n a b h
  exact fetchBytes_frame h

/-! ### Every step -/

/-- An instruction that completes is `exec` after a fetch. -/
theorem State.instruction_stored {s t : State} (h : s.instruction = .next t) : Stored s t := by
  unfold State.instruction at h
  split at h
  · cases h
  · split at h
    · rename_i b u hget
      exact (fetchBytes_frame (List.mem_of_getElem? hget)).stored.stored_trans (exec_stored h)
    · exact exec_stored h

theorem State.run_stored {s t : State} (h : s.run = .next t) : Stored s t := by
  unfold State.run at h
  split at h
  · cases h
  · exact State.instruction_stored h

/-- A step stores bytes, in normal mode none in the hypervisor memory, and keeps the parameters: the platform's input, then
an event entry or an instruction. -/
theorem step_stored {s t : State} (h : step s = .next t) : Stored s t := by
  have haccept := s.accept_stored
  unfold step at h
  dsimp only at h
  split at h
  · rename_i e _
    cases h
    exact haccept.stored_trans (State.take_stored e _)
  · have hstart : StoredInMode s { s.accept with atEntry := false } := haccept.trans .of_same
    exact hstart.stored_trans (State.run_stored h)

/-! ### The invariant and the hypervisor memory -/

/-- What every byte stored keeps holds of the memory after all of them. -/
theorem Stored.mem_induction {P : List Host.Cell → Prop} {s t : State} (h : Stored s t)
    (hbyte : ∀ {m m'}, s.StoresByte m m' → P m → P m') (hs : P s.mem) : P t.mem := by
  obtain ⟨-, hmem⟩ := h
  generalize t.mem = m at hmem
  induction hmem with
  | refl => exact hs
  | tail _ hstored ih => exact hbyte hstored ih

theorem State.StoresByte.wf {s : State} {m m' : List Host.Cell} (h : s.StoresByte m m') (hm : Memory.wf m) :
    Memory.wf m' := by
  obtain ⟨p, v, -, rfl⟩ := h
  exact Memory.write_wf hm p.toNat v

theorem State.StoresByte.inSpace {s : State} {m m' : List Host.Cell} (h : s.StoresByte m m')
    (hm : ∀ c ∈ m, c.1 < 2 ^ 28) : ∀ c ∈ m', c.1 < 2 ^ 28 := by
  obtain ⟨p, v, -, rfl⟩ := h
  exact Memory.write_inSpace hm p.isLt v

theorem Stored.inv {s t : State} (h : Stored s t) (hs : Inv s) : Inv t where
  canonical := h.mem_induction (fun hbyte => hbyte.wf) hs.canonical
  inSpace := h.mem_induction (fun hbyte => hbyte.inSpace) hs.inSpace
  parameters := h.cfg ▸ hs.parameters

/-- Settles O55. -/
theorem invAtReset : Obligations.InvAtReset where
  canonical := Memory.wf_nil
  inSpace := fun _ hc => absurd hc List.not_mem_nil
  parameters := by decide

/-- Settles O56: a step stores bytes, and each keeps the canonical form and the space. -/
theorem stepKeepsInv : Obligations.StepKeepsInv := by
  intro s t hs hstep
  exact (step_stored hstep).inv hs

/-- In normal mode a byte stored is another byte than that of a hypervisor address. -/
theorem State.StoresByte.read_hyper {s : State} {m m' : List Host.Cell} (h : s.StoresByte m m') (hs : s.hyper = false)
    {p : Phys} (hp : s.inHyper p = true) : Memory.read m' p.toNat = Memory.read m p.toNat := by
  obtain ⟨q, v, hmay, rfl⟩ := h
  have hq : s.inHyper q = false := hmay.resolve_left (by simp [hs])
  refine Memory.read_write_ne m v fun heq => ?_
  obtain rfl := BitVec.eq_of_toNat_eq heq
  cases hp.symm.trans hq

/-- Settles O57, by induction over the bytes that the step stores. -/
theorem hypervisorMemoryKept : Obligations.HypervisorMemoryKept := by
  intro s t hs hstep p hp
  exact (step_stored hstep).mem_induction (P := fun m => Memory.read m p.toNat = Memory.read s.mem p.toNat)
    (fun hbyte hm => (hbyte.read_hyper hs hp).trans hm) rfl

end Sys2Proof.Machine

/-! Where an access goes (`20_memory.md` R66 to R70): a block that MAP enables, C64 banking beneath, and the rows of VIC-III
banking, each with the number of the physical address. -/

namespace Sys2Proof.Machine

/-! ### The physical address of a banked range and of a MAP-ped block -/

theorem toNat_append_eq_add {m n : Nat} (x : BitVec m) (y : BitVec n) : (x ++ y).toNat = x.toNat * 2 ^ n + y.toNat := by
  rw [BitVec.toNat_append, ← Nat.shiftLeft_add_eq_or_of_lt y.isLt, Nat.shiftLeft_eq]

/-- The megabyte register above, and the sum truncated to 20 bits (R69, D12). -/
theorem mapped_toNat (megabyte : Byte) (off : BitVec 12) (a : Word) :
    (megabyte ++ (a.setWidth 20 + (off ++ 0x00#8))).toNat =
      megabyte.toNat * 2 ^ 20 + (a.toNat + 256 * off.toNat) % 2 ^ 20 := by
  have ha := a.isLt
  rw [toNat_append_eq_add, BitVec.toNat_add, BitVec.toNat_setWidth, toNat_append_eq_add, BitVec.toNat_ofNat]
  omega

theorem block_toNat (a : Word) : (a.extractLsb' 13 3).toNat = a.toNat / 8192 := by
  have ha := a.isLt
  rw [BitVec.extractLsb'_toNat, Nat.shiftRight_eq_div_pow]
  omega

theorem banked_eq_ofNat (base : Phys) {first a : Word} (h : first.toNat ≤ a.toNat) :
    banked base first a = BitVec.ofNat 28 (base.toNat + (a.toNat - first.toNat)) := by
  apply BitVec.eq_of_toNat_eq
  have ha := a.isLt
  rw [banked, BitVec.toNat_add, BitVec.toNat_setWidth, BitVec.toNat_sub_of_le h, BitVec.toNat_ofNat,
    Nat.mod_eq_of_lt (a := a.toNat - first.toNat) (by omega)]

/-! ### VIC-III banking out of the way (R66, D9) -/

theorem vicBanking_zero (acc : Access) (a : Word) : vicBanking 0x00#8 acc a = none := by simp [vicBanking]

/-- No row of `$D030` applies: hypervisor mode, or none on. -/
theorem State.vicBanking_off {s : State} (h : s.hyper = true ∨ s.d030 = 0x00#8) (acc : Access) (a : Word) :
    (if s.hyper then none else vicBanking s.d030 acc a) = none := by
  obtain h | h := h
  · rw [if_pos h]
  · rw [h, vicBanking_zero, ite_self]

section
variable {s : State} {acc : Access} {a : Word}
  (hvic : (if s.hyper then none else vicBanking s.d030 acc a) = none)
include hvic

theorem State.translate_of_map {p : Phys} (hmap : s.map.translate a = some p) : s.translate acc a = .phys p := by
  simp only [State.translate, hvic, hmap]

theorem State.translate_of_unmapped (hmap : s.map.translate a = none) :
    s.translate acc a = if a = 0x0000#16 then .portDdr else if a = 0x0001#16 then .portData
      else .phys (s.c64Banking acc a) := by
  simp only [State.translate, hvic, hmap]

end

/-! ### MAP (R69) -/

theorem MapRegs.translate_lower {m : MapRegs} {a : Word} (hblock : a.toNat / 8192 < 4)
    (hon : m.loEn.getLsbD (a.toNat / 8192) = true) :
    m.translate a = some (m.mbLo ++ (a.setWidth 20 + (m.loOff ++ 0x00#8))) := by
  simp only [MapRegs.translate, block_toNat, if_pos hblock, if_pos hon]

theorem MapRegs.translate_upper {m : MapRegs} {a : Word} (hblock : 4 ≤ a.toNat / 8192)
    (hon : m.hiEn.getLsbD (a.toNat / 8192 - 4) = true) :
    m.translate a = some (m.mbHi ++ (a.setWidth 20 + (m.hiOff ++ 0x00#8))) := by
  simp only [MapRegs.translate, block_toNat, if_neg (Nat.not_lt.mpr hblock), if_pos hon]

/-- Settles O45. -/
theorem mapTranslation : Obligations.MapTranslation := by
  intro s acc a hoff k
  have hvic := State.vicBanking_off hoff acc a
  constructor
  · intro hblock hon
    exact ⟨_, State.translate_of_map hvic (MapRegs.translate_lower hblock hon), mapped_toNat ..⟩
  · intro hblock hon
    exact ⟨_, State.translate_of_map hvic (MapRegs.translate_upper hblock hon), mapped_toNat ..⟩

/-! ### C64 banking (R70) -/

/-- Bit `k` that the CPU port gives: a bit configured as input reads as 1 (R41). -/
def State.bankBit (s : State) (k : Nat) : Bool := s.portData.getLsbD k || !s.portDdr.getLsbD k

theorem State.portEff_getLsbD (s : State) {k : Nat} (hk : k < 8) : s.portEff.getLsbD k = s.bankBit k := by
  simp only [State.portEff, State.bankBit, BitVec.getLsbD_or, BitVec.getLsbD_and, BitVec.getLsbD_not, hk, decide_true,
    Bool.true_and, Bool.or_and_distrib_right, Bool.or_not_self, Bool.and_true]

section
variable (s : State) (acc : Access) {a : Word}

theorem State.c64Banking_eq : s.c64Banking acc a =
    if 0xD000 ≤ a.toNat ∧ a.toNat < 0xE000 ∧ (s.bankBit 0 ∨ s.bankBit 1) ∧ s.bankBit 2 then banked s.ioBase 0xD000#16 a
    else if acc ≠ .write ∧ 0xD000 ≤ a.toNat ∧ a.toNat < 0xE000 ∧ (s.bankBit 0 ∨ s.bankBit 1) then
      banked 0x002D000#28 0xD000#16 a
    else if acc ≠ .write ∧ 0xA000 ≤ a.toNat ∧ a.toNat < 0xC000 ∧ s.bankBit 0 ∧ s.bankBit 1 then
      banked 0x002A000#28 0xA000#16 a
    else if acc ≠ .write ∧ 0xE000 ≤ a.toNat ∧ s.bankBit 1 then banked 0x002E000#28 0xE000#16 a
    else a.setWidth 28 := by
  simp only [State.c64Banking, s.portEff_getLsbD (k := 0) (by decide), s.portEff_getLsbD (k := 1) (by decide),
    s.portEff_getLsbD (k := 2) (by decide), Bool.and_eq_true, Bool.or_eq_true, decide_eq_true_eq, bne_iff_ne, and_assoc]

theorem State.c64Banking_ram (h : a.toNat < 0xA000 ∨ (0xC000 ≤ a.toNat ∧ a.toNat < 0xD000)) :
    s.c64Banking acc a = BitVec.ofNat 28 a.toNat := by
  rw [State.c64Banking_eq, if_neg (by omega), if_neg (by omega), if_neg (by omega), if_neg (by omega),
    BitVec.ofNat_toNat]

theorem State.c64Banking_basic (hlow : 0xA000 ≤ a.toNat) (hhigh : a.toNat < 0xC000) :
    s.c64Banking acc a = BitVec.ofNat 28
      (if acc ≠ .write ∧ s.bankBit 0 ∧ s.bankBit 1 then 0x2A000 + (a.toNat - 0xA000) else a.toNat) := by
  rw [State.c64Banking_eq, if_neg (by omega), if_neg (by omega), banked_eq_ofNat 0x002A000#28 (first := 0xA000#16) hlow,
    if_neg (c := acc ≠ .write ∧ 0xE000 ≤ a.toNat ∧ _) (by omega), apply_ite (BitVec.ofNat 28),
    BitVec.ofNat_toNat]
  simp only [hlow, hhigh, true_and, BitVec.reduceToNat]

theorem State.c64Banking_io (hlow : 0xD000 ≤ a.toNat) (hhigh : a.toNat < 0xE000) :
    s.c64Banking acc a = BitVec.ofNat 28
      (if (s.bankBit 0 ∨ s.bankBit 1) ∧ s.bankBit 2 then s.ioBase.toNat + (a.toNat - 0xD000)
       else if acc ≠ .write ∧ (s.bankBit 0 ∨ s.bankBit 1) then 0x2D000 + (a.toNat - 0xD000) else a.toNat) := by
  rw [State.c64Banking_eq, banked_eq_ofNat s.ioBase (first := 0xD000#16) hlow,
    banked_eq_ofNat 0x002D000#28 (first := 0xD000#16) hlow,
    if_neg (c := acc ≠ .write ∧ 0xA000 ≤ a.toNat ∧ _) (by omega),
    if_neg (c := acc ≠ .write ∧ 0xE000 ≤ a.toNat ∧ _) (by omega), apply_ite (BitVec.ofNat 28),
    apply_ite (BitVec.ofNat 28), BitVec.ofNat_toNat]
  simp only [hlow, hhigh, true_and, BitVec.reduceToNat]

theorem State.c64Banking_kernal (hlow : 0xE000 ≤ a.toNat) :
    s.c64Banking acc a = BitVec.ofNat 28
      (if acc ≠ .write ∧ s.bankBit 1 then 0x2E000 + (a.toNat - 0xE000) else a.toNat) := by
  rw [State.c64Banking_eq, if_neg (by omega), if_neg (by omega), if_neg (by omega),
    banked_eq_ofNat 0x002E000#28 (first := 0xE000#16) hlow, apply_ite (BitVec.ofNat 28), BitVec.ofNat_toNat]
  simp only [hlow, true_and, BitVec.reduceToNat]

end

/-- Beyond the CPU port's two addresses an unmapped block is banked as the C64's (R66 step 4). -/
theorem State.translate_of_unmapped_ge {s : State} {acc : Access} {a : Word} {n : Nat}
    (hvic : (if s.hyper then none else vicBanking s.d030 acc a) = none) (hmap : s.map.translate a = none)
    (ha : 2 ≤ a.toNat) (hn : s.c64Banking acc a = BitVec.ofNat 28 n) : s.translate acc a = .phys (BitVec.ofNat 28 n) := by
  have hne0 : a ≠ 0x0000#16 := by rintro rfl; simp at ha
  have hne1 : a ≠ 0x0001#16 := by rintro rfl; simp at ha
  rw [State.translate_of_unmapped hvic hmap, if_neg hne0, if_neg hne1, hn]

/-- Settles O46, by the range the address is in. -/
theorem c64BankingTranslation : Obligations.C64BankingTranslation := by
  intro s acc a hoff hmap n bit rd at_
  have hvic := State.vicBanking_off hoff acc a
  have hbanked {m : Nat} (hn : 2 ≤ n) (h : s.c64Banking acc a = BitVec.ofNat 28 m) : at_ m :=
    State.translate_of_unmapped_ge hvic hmap hn h
  refine ⟨fun h0 => ?ddr, fun h1 => ?data, fun hlow hhigh => ?low, fun hlow hhigh => ?basic, fun hlow hhigh => ?middle,
    fun hlow hhigh => ?io, fun hlow => ?kernal⟩
  case ddr =>
    rw [State.translate_of_unmapped hvic hmap, if_pos (BitVec.eq_of_toNat_eq h0)]
  case data =>
    obtain rfl : a = 0x0001#16 := BitVec.eq_of_toNat_eq h1
    rw [State.translate_of_unmapped hvic hmap, if_neg (by decide), if_pos rfl]
  case low => exact hbanked hlow (s.c64Banking_ram acc (.inl hhigh))
  case basic => exact hbanked (by omega) (s.c64Banking_basic acc hlow hhigh)
  case middle => exact hbanked (by omega) (s.c64Banking_ram acc (.inr ⟨hlow, hhigh⟩))
  case io => exact hbanked (by omega) (s.c64Banking_io acc hlow hhigh)
  case kernal => exact hbanked (by omega) (s.c64Banking_kernal acc hlow)

/-! ### VIC-III banking (R67) -/

/-- The rows, CROM9 before CRAM2K (D10); a write meets the CRAM2K row alone (D11). -/
theorem vicBanking_eq (d030 : Byte) (acc : Access) (a : Word) : vicBanking d030 acc a =
    if acc ≠ .write ∧ d030.getLsbD 3 ∧ 0x8000 ≤ a.toNat ∧ a.toNat < 0xA000 then
      some (.phys (banked 0x0038000#28 0x8000#16 a))
    else if acc ≠ .write ∧ d030.getLsbD 4 ∧ 0xA000 ≤ a.toNat ∧ a.toNat < 0xC000 then
      some (.phys (banked 0x003A000#28 0xA000#16 a))
    else if acc ≠ .write ∧ d030.getLsbD 5 ∧ 0xC000 ≤ a.toNat ∧ a.toNat < 0xD000 then
      some (.phys (banked 0x002C000#28 0xC000#16 a))
    else if acc ≠ .write ∧ d030.getLsbD 6 ∧ 0xD000 ≤ a.toNat ∧ a.toNat < 0xE000 then
      some (.phys (banked 0x0029000#28 0xD000#16 a))
    else if acc ≠ .write ∧ d030.getLsbD 7 ∧ 0xE000 ≤ a.toNat then some (.phys (banked 0x003E000#28 0xE000#16 a))
    else if d030.getLsbD 0 ∧ 0xD800 ≤ a.toNat ∧ a.toNat < 0xE000 then some (.colour (a.extractLsb' 0 11))
    else none := by
  simp only [vicBanking, Bool.and_eq_true, decide_eq_true_eq, bne_iff_ne, and_assoc]

/-- The byte of the window that an address of `$D800` on shows (R67, R68). -/
theorem colour_index {a : Word} (hlow : 0xD800 ≤ a.toNat) (hhigh : a.toNat < 0xE000) :
    a.extractLsb' 0 11 = BitVec.ofNat 11 (a.toNat - 0xD800) := by
  apply BitVec.eq_of_toNat_eq
  rw [BitVec.extractLsb'_toNat, Nat.shiftRight_zero, BitVec.toNat_ofNat]
  omega

theorem colourWindow_toNat (k : BitVec 11) : (colourWindow k).toNat = 0x1F800 + k.toNat := by
  have hk := k.isLt
  rw [colourWindow, BitVec.toNat_add, BitVec.toNat_setWidth, BitVec.toNat_ofNat]
  omega

theorem colourRam_toNat (k : BitVec 11) : (colourRam k).toNat = 0xFF80000 + k.toNat := by
  have hk := k.isLt
  rw [colourRam, BitVec.toNat_add, BitVec.toNat_setWidth, BitVec.toNat_ofNat]
  omega

section
variable {s : State} {acc : Access} {a : Word} (hnormal : s.hyper = false)
include hnormal

theorem State.translate_of_vic {t : Target} (h : vicBanking s.d030 acc a = some t) : s.translate acc a = t := by
  simp only [State.translate, hnormal, Bool.false_eq_true, if_false, h]

theorem State.translate_of_vic_none (h : vicBanking s.d030 acc a = none) :
    s.translate acc a = { s with d030 := 0x00#8 }.translate acc a := by
  simp only [State.translate, hnormal, Bool.false_eq_true, if_false, h, vicBanking_zero]
  rfl

end

/-- Settles O47, row by row: the ranges of the ROM rows do not meet. -/
theorem vicBankingTranslation : Obligations.VicBankingTranslation := by
  intro s acc a hnormal n bit rd at_ cram
  have hrow {base : Phys} {first : Word} (hfirst : first.toNat ≤ n)
      (h : vicBanking s.d030 acc a = some (.phys (banked base first a))) : at_ (base.toNat + (n - first.toNat)) :=
    (State.translate_of_vic hnormal h).trans (congrArg Target.phys (banked_eq_ofNat base hfirst))
  refine ⟨fun hrd hlow hhigh hon => ?row3, fun hrd hlow hhigh hon => ?row4, fun hrd hlow hhigh hon => ?row5,
    fun hrd hlow hhigh hon => ?row6, fun hrd hlow hon => ?row7, ?row0, fun hcram hrom => ?none,
    fun k => ⟨colourWindow_toNat k, colourRam_toNat k⟩⟩
  case row3 =>
    refine hrow (first := 0x8000#16) (base := 0x0038000#28) hlow ?_
    rw [vicBanking_eq, if_pos ⟨hrd, hon, hlow, hhigh⟩]
  case row4 =>
    refine hrow (first := 0xA000#16) (base := 0x003A000#28) hlow ?_
    rw [vicBanking_eq, if_neg (by omega), if_pos ⟨hrd, hon, hlow, hhigh⟩]
  case row5 =>
    refine hrow (first := 0xC000#16) (base := 0x002C000#28) hlow ?_
    rw [vicBanking_eq, if_neg (by omega), if_neg (by omega), if_pos ⟨hrd, hon, hlow, hhigh⟩]
  case row6 =>
    refine hrow (first := 0xD000#16) (base := 0x0029000#28) hlow ?_
    rw [vicBanking_eq, if_neg (by omega), if_neg (by omega), if_neg (by omega), if_pos ⟨hrd, hon, hlow, hhigh⟩]
  case row7 =>
    refine hrow (first := 0xE000#16) (base := 0x003E000#28) hlow ?_
    rw [vicBanking_eq, if_neg (by omega), if_neg (by omega), if_neg (by omega), if_neg (by omega),
      if_pos ⟨hrd, hon, hlow⟩]
  case row0 =>
    rintro ⟨hlow, hhigh, hon⟩ hcrom9
    refine State.translate_of_vic hnormal ?_
    rw [vicBanking_eq, if_neg (by omega), if_neg (by omega), if_neg (by omega),
      if_neg (fun ⟨hrd, hon6, _⟩ => hcrom9 ⟨hrd, hon6⟩), if_neg (by omega), if_pos ⟨hon, hlow, hhigh⟩,
      colour_index hlow hhigh]
  case none =>
    refine State.translate_of_vic_none hnormal ?_
    rw [vicBanking_eq,
      if_neg (fun ⟨hrd, hon, hlow, hhigh⟩ => hrom ⟨hrd, .inl ⟨hlow, hhigh, hon⟩⟩),
      if_neg (fun ⟨hrd, hon, hlow, hhigh⟩ => hrom ⟨hrd, .inr (.inl ⟨hlow, hhigh, hon⟩)⟩),
      if_neg (fun ⟨hrd, hon, hlow, hhigh⟩ => hrom ⟨hrd, .inr (.inr (.inl ⟨hlow, hhigh, hon⟩))⟩),
      if_neg (fun ⟨hrd, hon, hlow, hhigh⟩ => hrom ⟨hrd, .inr (.inr (.inr (.inl ⟨hlow, hhigh, hon⟩)))⟩),
      if_neg (fun ⟨hrd, hon, hlow⟩ => hrom ⟨hrd, .inr (.inr (.inr (.inr ⟨hlow, hon⟩)))⟩),
      if_neg (fun ⟨hon, hlow, hhigh⟩ => hcram ⟨hlow, hhigh, hon⟩)]

end Sys2Proof.Machine

/-! Accesses of devices, of ROM and of the inhibited hypervisor memory (`20_memory.md` R60, R71 to R73, R81), and the
instructions that read a value and write a changed one: on RAM, the Q forms (R80); on devices, all of them, with the dummy
write (R79). -/

namespace Sys2Proof.Machine

/-! ### One byte at a physical address -/

theorem State.isDevice_iff (s : State) (p : Phys) :
    s.isDevice p = true ↔ s.kindOf p = .platform ∨ ∃ off, s.kindOf p = .io off ∧ s.ioReg off = .device := by
  unfold State.isDevice
  cases s.kindOf p <;> simp

theorem Ctx.answer_of_answers {c : Ctx} {w : Byte} {rest : List Byte} (h : c.st.answers = w :: rest) (p : Phys) :
    c.answer p = (w, { c with st := { c.st with answers := rest, trace := .read p w :: c.st.trace } }) := by
  simp only [Ctx.answer, h, Ctx.upd]

theorem Ctx.physRead_of_isDevice {c : Ctx} {p : Phys} (h : c.st.isDevice p = true) (acc : Access) :
    c.physRead acc p = c.answer p := by
  obtain hk | ⟨off, hk, hr⟩ := (State.isDevice_iff ..).mp h
  · simp only [Ctx.physRead, hk, Ctx.readCell, State.readCell]
  · simp only [Ctx.physRead, hk, Ctx.ioRead, hr]

theorem Ctx.physRead_of_inhibited {c : Ctx} {p : Phys} (hk : c.st.kindOf p = .hyperMem) (hnormal : c.st.hyper = false)
    (acc : Access) : c.physRead acc p = c.answer p := by
  simp only [Ctx.physRead, hk, Ctx.readCell, State.readCell, hnormal, Bool.false_eq_true, if_false]

theorem Ctx.physRead_of_rom {c : Ctx} {p : Phys} (hk : c.st.kindOf p = .rom) (acc : Access) :
    c.physRead acc p = (Memory.read c.st.mem p.toNat, c) := by
  simp only [Ctx.physRead, hk, Ctx.readCell, State.readCell]

theorem Ctx.physWrite_of_isDevice {c : Ctx} {p : Phys} (h : c.st.isDevice p = true) (v : Byte) :
    c.physWrite p v = c.act p v := by
  obtain hk | ⟨off, hk, hr⟩ := (State.isDevice_iff ..).mp h
  · simp only [Ctx.physWrite, hk, Ctx.writeCell, State.writeCell]
  · simp only [Ctx.physWrite, hk, Ctx.ioWrite, hr]

theorem Ctx.physWrite_of_rom {c : Ctx} {p : Phys} (hk : c.st.kindOf p = .rom) (v : Byte) :
    c.physWrite p v = if c.st.cfg.romWritable then { c with st := c.st.setCell p v } else c := by
  simp only [Ctx.physWrite, hk, Ctx.writeCell, State.writeCell]
  split <;> rfl

theorem Ctx.physWrite_of_inhibited {c : Ctx} {p : Phys} (hk : c.st.kindOf p = .hyperMem)
    (hnormal : c.st.hyper = false) (v : Byte) : c.physWrite p v = c := by
  simp only [Ctx.physWrite, hk, Ctx.writeCell, State.writeCell, hnormal, Bool.false_eq_true, if_false]

/-! ### Loads and stores of a device -/

theorem Flags.nz_byte (fl : Flags) (w : Byte) : fl.nz w = { fl with n := w.getLsbD 7, z := w == 0x00#8 } := rfl

section
variable {i : Instr} {s : State} {r : Reg} {m : MemMode} {len : Nat} {pl : Place} {p : Phys}

theorem exec_load_of_isDevice {w : Byte} {rest : List Byte} (hform : formOf i = .load r (.mem m) len)
    (hplace : s.place m = some pl) (htarget : s.target .read pl = .phys p) (hdevice : s.isDevice p = true)
    (hanswers : s.answers = w :: rest) :
    exec i s = .next { (s.advance len).setReg r w with
      fl := s.fl.nz w, answers := rest, trace := .read p w :: s.trace } := by
  have hea : (Ctx.start len s).ea m = (pl, Ctx.start len s) := Ctx.ea_of_place hplace
  have hread := Ctx.read8_of_isDevice (c := Ctx.start len s) htarget hdevice hanswers
  rw [exec_form, hform, Form.run, State.load, Ctx.operand, hea]
  simp only [hread]
  cases r <;> rfl

theorem exec_store_of_isDevice (hform : formOf i = .store r m len) (hplace : s.place m = some pl)
    (htarget : s.target .write pl = .phys p) (hdevice : s.isDevice p = true) :
    exec i s = .next { s.advance len with trace := .write p (s.reg r) :: s.trace } := by
  rw [exec_store_of_place hform hplace, Ctx.write8_of_isDevice (c := .of (s.advance len)) htarget hdevice]
  rfl

end

/-- Settles O49, by the kind of the physical address. -/
theorem physicalAccess : Obligations.PhysicalAccess := by
  constructor
  · intro c acc p v w rest device
    have hdevice (h : device) : c.st.isDevice p = true := (State.isDevice_iff ..).mpr h
    refine ⟨?read, fun h => Ctx.physWrite_of_isDevice (hdevice h) v,
      fun hk => ⟨Ctx.physRead_of_rom hk acc, ?kept, ?stored⟩, fun hk hnormal => Ctx.physWrite_of_inhibited hk hnormal v⟩
    case read =>
      rintro (h | ⟨hk, hnormal⟩) hanswers
      · rw [Ctx.physRead_of_isDevice (hdevice h), Ctx.answer_of_answers hanswers]
      · rw [Ctx.physRead_of_inhibited hk hnormal, Ctx.answer_of_answers hanswers]
    case kept =>
      intro hfixed
      rw [Ctx.physWrite_of_rom hk, if_neg (by simp [hfixed])]
    case stored =>
      intro hwritable
      rw [Ctx.physWrite_of_rom hk, if_pos hwritable]
      rfl
  · intro i s r m len pl p hplace h
    have hdevice : s.isDevice p = true := (State.isDevice_iff ..).mpr h
    exact ⟨fun w rest hform htarget hanswers => exec_load_of_isDevice hform hplace htarget hdevice hanswers,
      fun hform htarget => exec_store_of_isDevice hform hplace htarget hdevice⟩

/-! ### Q shifts, INQ and DEQ on registers and on RAM (R220 to R228, R80) -/

theorem exec_changeQ {i : Instr} {ch : Change} {len : Nat} (hform : formOf i = .changeQ ch len) (s : State) :
    exec i s = .next ((s.advance len).setQFlags (ch.apply s.fl s.q).1 (ch.apply s.fl s.q).2) := by
  rw [exec_form, hform]
  rfl

section
variable {i : Instr} {s : State} {ch : Change} {m : MemMode} {len : Nat} {pl : Place}

/-- Once the four bytes are read, the flags are set and the changed bytes written. -/
theorem exec_changeMemQ_of_read32 {v : Quad} {c : Ctx} (hform : formOf i = .changeMemQ ch m len)
    (hplace : s.place m = some pl) (hread : (Ctx.of (s.advance len)).read32 pl = (v, c)) :
    exec i s = ((c.upd fun t => { t with fl := (ch.apply c.st.fl v).2 }).write32 pl (ch.apply c.st.fl v).1).done := by
  have hea : (Ctx.of (s.advance len)).ea m = (pl, Ctx.of (s.advance len)) := Ctx.ea_of_place hplace
  rw [exec_form, hform, Form.run, State.changeMemQ, Ctx.start_eq, hea]
  simp only [hread]

theorem exec_changeMemQ_of_ramAt {v : Quad} {p0 p1 p2 p3 : Phys} (hform : formOf i = .changeMemQ ch m len)
    (hplace : s.place m = some pl) (hpeek : s.peek32 pl = some v) (h0 : s.ramAt pl = some p0)
    (h1 : s.ramAt (pl.plus 1) = some p1) (h2 : s.ramAt (pl.plus 2) = some p2) (h3 : s.ramAt (pl.plus 3) = some p3) :
    let r := (ch.apply s.fl v).1
    exec i s = .next (State.storeAll { s.advance len with fl := (ch.apply s.fl v).2 }
      [(p0, r.extractLsb' 0 8), (p1, r.extractLsb' 8 8), (p2, r.extractLsb' 16 8), (p3, r.extractLsb' 24 8)]) := by
  have hread : (Ctx.of (s.advance len)).read32 pl = (v, Ctx.of (s.advance len)) := Ctx.read32_of_peek32 hpeek
  rw [exec_changeMemQ_of_read32 hform hplace hread, Ctx.write32_of_ramAt h0 h1 h2 h3]
  rfl

end

theorem State.storeAll_eq (s : State) (ws : List (Phys × Byte)) :
    s.storeAll ws = { s with mem := (s.storeAll ws).mem } := by
  induction ws generalizing s with
  | nil => rfl
  | cons w ws ih => exact ih (s.setCell w.1 w.2)

/-- Settles O34. -/
theorem changeQResult : Obligations.ChangeQResult := by
  intro i s ch len
  refine ⟨fun hform => exec_changeQ hform s, ?_⟩
  intro m pl v p0 p1 p2 p3 hform hplace hpeek h0 h1 h2 h3 r ws
  exact ⟨_, exec_changeMemQ_of_ramAt hform hplace hpeek h0 h1 h2 h3, State.storeAll_eq _ ws,
    State.writes_storeAll rfl ws⟩

/-! ### Reading and writing devices, byte after byte -/

/-- The state with other platform answers to come and another trace. -/
def State.withBus (s : State) (answers : List Byte) (trace : List BusEvent) : State :=
  { s with answers := answers, trace := trace }

/-- The data address is the device at `p`, for reads and for writes. -/
structure State.DeviceAt (s : State) (pl : Place) (p : Phys) : Prop where
  read : s.target .read pl = .phys p
  write : s.target .write pl = .phys p
  device : s.isDevice p = true

/-- The transactions of the dummy write of byte `v` (R79). -/
def State.dummyWrites (s : State) (always : Bool) (pl : Place) (p : Phys) (v : Byte) : List BusEvent :=
  if pl = .cpu 0xD019#16 ∧ (always = true ∨ s.cfg.rmw65ce02DummyWrite = true) then [.write p v] else []

theorem State.dummyWrite_iff (s : State) (always : Bool) (pl : Place) : s.dummyWrite always pl = true ↔
    pl = .cpu 0xD019#16 ∧ (always = true ∨ s.cfg.rmw65ce02DummyWrite = true) := by
  simp only [State.dummyWrite, Bool.and_eq_true, beq_iff_eq, Bool.or_eq_true]

section
variable {s : State} {pl : Place} {p : Phys} (h : s.DeviceAt pl p)
include h

theorem Ctx.read8_withBus (v : Byte) (rest : List Byte) (tr : List BusEvent) :
    (Ctx.of (s.withBus (v :: rest) tr)).read8 pl = (v, Ctx.of (s.withBus rest (.read p v :: tr))) :=
  Ctx.read8_of_isDevice (c := Ctx.of (s.withBus (v :: rest) tr)) h.read h.device rfl

theorem Ctx.write8_withBus (v : Byte) (an : List Byte) (tr : List BusEvent) :
    (Ctx.of (s.withBus an tr)).write8 pl v = Ctx.of (s.withBus an (.write p v :: tr)) :=
  Ctx.write8_of_isDevice (c := Ctx.of (s.withBus an tr)) h.write h.device v

theorem Ctx.writeBack_withBus (always : Bool) (v : Byte) (an : List Byte) (tr : List BusEvent) :
    (Ctx.of (s.withBus an tr)).writeBack always pl v =
      Ctx.of (s.withBus an (s.dummyWrites always pl p v ++ tr)) := by
  have hiff : (Ctx.of (s.withBus an tr)).st.dummyWrite always pl = true ↔ _ := State.dummyWrite_iff ..
  unfold Ctx.writeBack State.dummyWrites
  by_cases hdummy : pl = .cpu 0xD019#16 ∧ (always = true ∨ s.cfg.rmw65ce02DummyWrite = true)
  · rw [if_pos (hiff.mpr hdummy), if_pos hdummy, Ctx.write8_withBus h]
    rfl
  · rw [if_neg (mt hiff.mp hdummy), if_neg hdummy]
    rfl

theorem State.DeviceAt.advance (len : Nat) : (s.advance len).DeviceAt pl p := ⟨h.read, h.write, h.device⟩

theorem State.DeviceAt.withFlags (fl : Flags) : { s with fl := fl }.DeviceAt pl p := ⟨h.read, h.write, h.device⟩

end

section
variable {s : State} {pl : Place} {p0 p1 p2 p3 : Phys} (h0 : s.DeviceAt pl p0) (h1 : s.DeviceAt (pl.plus 1) p1)
include h0 h1

theorem Ctx.read16_withBus (v0 v1 : Byte) (rest : List Byte) (tr : List BusEvent) :
    (Ctx.of (s.withBus (v0 :: v1 :: rest) tr)).read16 pl =
      (v1 ++ v0, Ctx.of (s.withBus rest (.read p1 v1 :: .read p0 v0 :: tr))) := by
  simp only [Ctx.read16, Ctx.read8_withBus h0, Ctx.read8_withBus h1]

theorem Ctx.write16_withBus (v : Word) (an : List Byte) (tr : List BusEvent) :
    (Ctx.of (s.withBus an tr)).write16 pl v =
      Ctx.of (s.withBus an (.write p1 (v.extractLsb' 8 8) :: .write p0 (v.extractLsb' 0 8) :: tr)) := by
  simp only [Ctx.write16, Ctx.write8_withBus h0, Ctx.write8_withBus h1]

variable (h2 : s.DeviceAt (pl.plus 2) p2) (h3 : s.DeviceAt (pl.plus 3) p3)
include h2 h3

theorem Ctx.read32_withBus (v0 v1 v2 v3 : Byte) (rest : List Byte) (tr : List BusEvent) :
    (Ctx.of (s.withBus (v0 :: v1 :: v2 :: v3 :: rest) tr)).read32 pl =
      (v3 ++ v2 ++ v1 ++ v0,
        Ctx.of (s.withBus rest (.read p3 v3 :: .read p2 v2 :: .read p1 v1 :: .read p0 v0 :: tr))) := by
  simp only [Ctx.read32, Ctx.read8_withBus h0, Ctx.read8_withBus h1, Ctx.read8_withBus h2, Ctx.read8_withBus h3]

theorem Ctx.write32_withBus (v : Quad) (an : List Byte) (tr : List BusEvent) :
    (Ctx.of (s.withBus an tr)).write32 pl v =
      Ctx.of (s.withBus an (.write p3 (v.extractLsb' 24 8) :: .write p2 (v.extractLsb' 16 8) ::
        .write p1 (v.extractLsb' 8 8) :: .write p0 (v.extractLsb' 0 8) :: tr)) := by
  simp only [Ctx.write32, Ctx.write8_withBus h0, Ctx.write8_withBus h1, Ctx.write8_withBus h2, Ctx.write8_withBus h3]

end

/-! ### The dummy write (R79, R358) -/

theorem Ctx.upd_flags_withBus (s : State) (an : List Byte) (tr : List BusEvent) (fl : Flags) :
    ((Ctx.of (s.withBus an tr)).upd fun t => { t with fl := fl }) = Ctx.of ({ s with fl := fl }.withBus an tr) := rfl

theorem Ctx.start_eq_withBus {s : State} {an : List Byte} (h : s.answers = an) (len : Nat) :
    Ctx.start len s = Ctx.of ((s.advance len).withBus an s.trace) := by
  subst h
  rfl

theorem Change.always_eq (ch : Change) : ch.always = decide (ch ≠ .shift .asr) := by
  rw [Bool.eq_iff_iff, Change.always, bne_iff_ne, decide_eq_true_iff]

section
variable {s : State} {m : MemMode} {len : Nat} {pl : Place} {p : Phys} {v : Byte} {rest : List Byte}

/-- Read, the dummy write, write: `r` is what the operation makes of the byte, whatever the platform's answers. -/
theorem State.rmw8_withBus {f : State → Byte → Byte × Flags} {r : Byte × Flags} (hplace : s.place m = some pl)
    (h : s.DeviceAt pl p) (hanswers : s.answers = v :: rest)
    (hf : ∀ an tr, f ((s.advance len).withBus an tr) v = r) (always : Bool) :
    s.rmw8 always f m len = .next ({ s.advance len with fl := r.2 }.withBus rest
      (.write p r.1 :: (s.dummyWrites always pl p v ++ BusEvent.read p v :: s.trace))) := by
  have hu := h.advance len
  have hea : (Ctx.start len s).ea m = (pl, Ctx.start len s) := Ctx.ea_of_place hplace
  rw [State.rmw8, hea, Ctx.start_eq_withBus hanswers]
  simp only [Ctx.read8_withBus hu, Ctx.writeBack_withBus hu, Ctx.of_st, hf, Ctx.upd_flags_withBus,
    Ctx.write8_withBus (hu.withFlags r.2), Ctx.done_of]
  rfl

theorem State.changeWord_withBus {p1 : Phys} {w : Byte} (hplace : s.place m = some pl) (h : s.DeviceAt pl p)
    (h1 : s.DeviceAt (pl.plus 1) p1)
    (hanswers : s.answers = v :: w :: rest) (ch : Change) :
    let r := ch.apply s.fl (w ++ v)
    s.changeWord ch m len = .next ({ s.advance len with fl := r.2 }.withBus rest
      (.write p1 (r.1.extractLsb' 8 8) :: .write p (r.1.extractLsb' 0 8) ::
        (s.dummyWrites false pl p v ++ BusEvent.read p1 w :: BusEvent.read p v :: s.trace))) := by
  intro r
  have hu := h.advance len
  have hu1 := h1.advance len
  have hea : (Ctx.start len s).ea m = (pl, Ctx.start len s) := Ctx.ea_of_place hplace
  rw [State.changeWord, hea, Ctx.start_eq_withBus hanswers]
  simp only [Ctx.read16_withBus hu hu1, BitVec.extractLsb'_append_eq_right, Ctx.writeBack_withBus hu, Ctx.of_st,
    Ctx.upd_flags_withBus, Ctx.write16_withBus (hu.withFlags _) (hu1.withFlags _), Ctx.done_of]
  rfl

/-- The Q forms make no dummy write (R80). -/
theorem exec_changeMemQ_withBus {i : Instr} {ch : Change} {p1 p2 p3 : Phys} {v1 v2 v3 : Byte}
    (hform : formOf i = .changeMemQ ch m len) (hplace : s.place m = some pl) (h : s.DeviceAt pl p)
    (h1 : s.DeviceAt (pl.plus 1) p1) (h2 : s.DeviceAt (pl.plus 2) p2) (h3 : s.DeviceAt (pl.plus 3) p3)
    (hanswers : s.answers = v :: v1 :: v2 :: v3 :: rest) :
    let r := ch.apply s.fl (v3 ++ v2 ++ v1 ++ v)
    exec i s = .next ({ s.advance len with fl := r.2 }.withBus rest
      (.write p3 (r.1.extractLsb' 24 8) :: .write p2 (r.1.extractLsb' 16 8) :: .write p1 (r.1.extractLsb' 8 8) ::
        .write p (r.1.extractLsb' 0 8) :: .read p3 v3 :: .read p2 v2 :: .read p1 v1 :: .read p v :: s.trace)) := by
  intro r
  have hread := Ctx.read32_withBus (h.advance len) (h1.advance len) (h2.advance len) (h3.advance len) v v1 v2 v3 rest
    s.trace
  rw [← Ctx.start_eq_withBus hanswers] at hread
  rw [exec_changeMemQ_of_read32 hform hplace hread, Ctx.upd_flags_withBus,
    Ctx.write32_withBus ((h.advance len).withFlags _) ((h1.advance len).withFlags _) ((h2.advance len).withFlags _)
      ((h3.advance len).withFlags _), Ctx.done_of]
  rfl

end

/-- Settles O35, form by form. -/
theorem dummyWrite : Obligations.DummyWrite := by
  intro i s m len pl p v rest hplace hread hwrite hdevice old
  have h : s.DeviceAt pl p := ⟨hread, hwrite, hdevice⟩
  refine ⟨fun hanswers => ⟨fun ch hform => ?mem, fun op hform => ?bit⟩, ?word, ?quad⟩
  case mem =>
    rw [exec_form, hform, Form.run, State.changeMem, ← Change.always_eq]
    exact State.rmw8_withBus hplace h (f := fun s v => ch.apply s.fl v) hanswers (fun _ _ => rfl) ch.always
  case bit =>
    rw [exec_form, hform, Form.run, State.bitMem]
    exact State.rmw8_withBus hplace h (f := fun s v => op.apply s.a s.fl v) hanswers (fun _ _ => rfl) false
  case word =>
    intro ch p1 w hform hread1 hwrite1 hdevice1 hanswers r
    rw [exec_form, hform]
    exact State.changeWord_withBus hplace h ⟨hread1, hwrite1, hdevice1⟩ hanswers ch
  case quad =>
    intro ch p1 p2 p3 v1 v2 v3 hform device hdevice1 hdevice2 hdevice3 hanswers r
    have hat {k : Nat} {q : Phys} : device k q → s.DeviceAt (pl.plus k) q := fun ⟨hread, hwrite, hdevice⟩ =>
      ⟨hread, hwrite, hdevice⟩
    exact exec_changeMemQ_withBus hform hplace h (hat hdevice1) (hat hdevice2) (hat hdevice3) hanswers

end Sys2Proof.Machine

/-! Decoding and encoding (`30_encoding.md`): every row of the opcode maps has the encoding of its instruction's rule
(R115 to R120), every instruction's bytes lead to its row, and the decoder is the choice of a row and the reading of its
operand bytes (R114). -/

namespace Sys2Proof

/-! ### Operand words (R112) -/

theorem highByte_append_lowByte (w : Word) : highByte w ++ lowByte w = w := by
  rw [highByte, lowByte, BitVec.extractLsb'_append_extractLsb'_eq_extractLsb' (by rfl)]
  exact BitVec.extractLsb'_eq_self

@[simp] theorem lowByte_append (hh ll : Byte) : lowByte (hh ++ ll) = ll := BitVec.extractLsb'_append_eq_right

@[simp] theorem highByte_append (hh ll : Byte) : highByte (hh ++ ll) = hh := BitVec.extractLsb'_append_eq_left

/-! ### Cells: how many operand bytes, and which encoding -/

/-- The number of operand bytes a cell reads (R111). -/
def Cell.width (c : Cell) : Nat :=
  match c with
  | .f0 _ => 0
  | .f1 _ => 1
  | .f2 _ | .f2br _ => 2

theorem Cell.width_le (c : Cell) : c.width ≤ 2 :=
  match c with
  | .f0 _ => Nat.zero_le 2
  | .f1 _ => Nat.le_succ 1
  | .f2 _ | .f2br _ => Nat.le_refl 2

/-- The cell's instructions are encoded as the bytes `code` and their operand bytes. -/
inductive Cell.Codes (code : List Byte) : Cell → Prop
  | f0 {i : Instr} (h : encode i = code) : Codes code (.f0 i)
  | f1 {i : Byte → Instr} (h : ∀ v, encode (i v) = code ++ [v]) : Codes code (.f1 i)
  | f2 {i : Word → Instr} (h : ∀ w, encode (i w) = code ++ [lowByte w, highByte w]) : Codes code (.f2 i)
  | f2br {i : Byte → Byte → Instr} (h : ∀ nn d, encode (i nn d) = code ++ [nn, d]) : Codes code (.f2br i)

/-- Reading fails only for want of bytes. -/
theorem Cell.exists_read {c : Cell} {operands : List Byte} (h : operands.length = c.width) (rest : List Byte) :
    ∃ i, c.read (operands ++ rest) = .ok (i, rest) := by
  cases c with
  | f0 i =>
    obtain rfl := List.length_eq_zero_iff.mp h
    exact ⟨i, rfl⟩
  | f1 i =>
    obtain ⟨v, rfl⟩ := List.length_eq_one_iff.mp h
    exact ⟨i v, rfl⟩
  | f2 i =>
    obtain ⟨ll, hh, rfl⟩ := List.length_eq_two.mp h
    exact ⟨i (hh ++ ll), rfl⟩
  | f2br i =>
    obtain ⟨nn, rr, rfl⟩ := List.length_eq_two.mp h
    exact ⟨i nn rr, rfl⟩

/-- Reading takes the operand bytes off the front, and they are those of the instruction's encoding. -/
theorem Cell.exists_operands_of_read {c : Cell} {bs rest : List Byte} {i : Instr} (h : c.read bs = .ok (i, rest)) :
    ∃ operands, bs = operands ++ rest ∧ (∀ more, c.read (operands ++ more) = .ok (i, more)) ∧
      ∀ code, c.Codes code → encode i = code ++ operands := by
  unfold Cell.read at h
  split at h
  case h_1 mk _ =>
    cases h
    exact ⟨[], rfl, fun _ => rfl, fun | _, .f0 hcode => hcode.trans (List.append_nil _).symm⟩
  case h_2 mk v _ =>
    cases h
    exact ⟨[v], rfl, fun _ => rfl, fun | _, .f1 hcode => hcode v⟩
  case h_3 mk ll hh _ =>
    cases h
    refine ⟨[ll, hh], rfl, fun _ => rfl, fun | _, .f2 hcode => ?_⟩
    rw [hcode, lowByte_append, highByte_append]
  case h_4 mk nn rr _ =>
    cases h
    exact ⟨[nn, rr], rfl, fun _ => rfl, fun | _, .f2br hcode => hcode nn rr⟩
  all_goals cases h

/-! ### The opcode maps: each row has the encoding of its instruction -/

theorem baseMap_codes : ∀ p ∈ baseMap.zipIdx, p.1.Codes [BitVec.ofNat 8 p.2] := by
  rw [← List.forall_iff_forall_mem]
  repeat' constructor
  all_goals intros; rfl

theorem farMap_codes : ∀ p ∈ farMap, p.2.Codes [eomByte, p.1] := by
  rw [← List.forall_iff_forall_mem]
  repeat' constructor
  all_goals intros; rfl

theorem quadMap_codes : ∀ p ∈ quadMap ++ reservedMap, p.2.Codes [negByte, negByte, p.1] := by
  rw [← List.forall_iff_forall_mem]
  repeat' constructor
  all_goals intros; rfl

theorem quadFarMap_codes : ∀ p ∈ quadFarMap, p.2.Codes [negByte, negByte, eomByte, p.1] := by
  rw [← List.forall_iff_forall_mem]
  repeat' constructor
  all_goals intros; rfl

theorem mem_of_lookup_eq_some {op : Byte} {c : Cell} {table : List (Byte × Cell)} (h : table.lookup op = some c) :
    (op, c) ∈ table := by
  obtain ⟨_, _, rfl, -⟩ := List.lookup_eq_some_iff.mp h
  exact List.mem_append_right _ List.mem_cons_self

theorem lookup_eq_none_iff_notMem {op : Byte} {table : List (Byte × Cell)} :
    table.lookup op = none ↔ op ∉ table.map Prod.fst := by
  rw [List.lookup_eq_none_iff, List.mem_map, not_exists]
  exact forall_congr' fun p => by rw [not_and, bne_iff_ne, ne_comm]

/-- The base map has a cell for every opcode byte (R122). -/
theorem exists_baseMap_cell (op : Byte) : ∃ c, baseMap[op.toNat]? = some c := by
  have hlength : baseMap.length = 2 ^ 8 := by
    simp only [baseMap, List.length_append]
    rfl
  exact ⟨_, List.getElem?_eq_getElem (hlength ▸ op.isLt)⟩

theorem exists_farMap_cell {op : Byte} (h : op ∈ farOpcodes) : ∃ c, farMap.lookup op = some c ∧ c.width = 1 := by
  have hwidth : ∀ op ∈ farOpcodes, (farMap.lookup op).map Cell.width = some 1 := by decide
  exact Option.map_eq_some_iff.mp (hwidth op h)

theorem exists_quadFarMap_cell {op : Byte} (h : op ∈ farOpcodes) :
    ∃ c, quadFarMap.lookup op = some c ∧ c.width = 1 := by
  have hwidth : ∀ op ∈ farOpcodes, (quadFarMap.lookup op).map Cell.width = some 1 := by decide
  exact Option.map_eq_some_iff.mp (hwidth op h)

/-! ### The decoder: a row, then its operand bytes (R114) -/

/-- The byte `op` before `bs` is read as an opcode: it is no `42` before `42`, and no `EA` before a FAR opcode. -/
def Alone (op : Byte) (bs : List Byte) : Prop :=
  (op = negByte → negByte ∉ bs.head?) ∧ (op = eomByte → ∀ b ∈ bs.head?, b ∉ farOpcodes)

/-- The bytes `bs` begin with the bytes that stand for the cell `c` in its opcode map, and `operands` follow them. -/
inductive Selects : (bs : List Byte) → (c : Cell) → (operands : List Byte) → Prop
  | base {op : Byte} {bs : List Byte} {c : Cell} (halone : Alone op bs) (hc : baseMap[op.toNat]? = some c) :
      Selects (op :: bs) c bs
  | far {op : Byte} {bs : List Byte} {c : Cell} (hc : farMap.lookup op = some c) : Selects (eomByte :: op :: bs) c bs
  | quad {op : Byte} {bs : List Byte} {c : Cell} (hop : op ≠ eomByte)
      (hc : (quadMap ++ reservedMap).lookup op = some c) : Selects (negByte :: negByte :: op :: bs) c bs
  | quadFar {op : Byte} {bs : List Byte} {c : Cell} (hc : quadFarMap.lookup op = some c) :
      Selects (negByte :: negByte :: eomByte :: op :: bs) c bs

/-- A selected cell's operand bytes are all that is left to read. -/
theorem decode_eq_read {bs operands : List Byte} {c : Cell} (h : Selects bs c operands) :
    decode bs = c.read operands := by
  cases h with
  | @base op _ _ halone hc =>
    obtain ⟨hneg, heom⟩ := halone
    have hbase : decodeBase op operands = c.read operands := by rw [decodeBase, hc]
    cases operands with
    | nil => exact hbase
    | cons b rest =>
      have hquad : ¬(op = negByte ∧ b = negByte) := fun ⟨hop, hb⟩ => hneg hop (hb ▸ rfl)
      rw [decode, if_neg hquad]
      split
      case isTrue hop =>
        have hfar : farMap.lookup b = none := lookup_eq_none_iff_notMem.mpr (heom hop b rfl)
        rw [hfar, hbase]
      case isFalse => exact hbase
  | far hc =>
    have hquad : ∀ op, ¬(eomByte = negByte ∧ op = negByte) := fun _ ⟨h, _⟩ => absurd h (by decide)
    rw [decode, if_neg (hquad _), if_pos rfl, hc]
  | quad hop hc => rw [decode, if_pos ⟨rfl, rfl⟩, decodeQuad, if_neg hop, hc]
  | quadFar hc => rw [decode, if_pos ⟨rfl, rfl⟩, decodeQuad, if_pos rfl, decodeQuadFar, hc]

/-- Every byte sequence that does not begin `42 42` selects a cell, and two bytes after its first give enough
operands. -/
theorem exists_selects {op : Byte} {bs : List Byte} (h : ¬(op = negByte ∧ negByte ∈ bs.head?)) :
    ∃ c operands, Selects (op :: bs) c operands ∧ bs.length + c.width ≤ operands.length + 2 := by
  by_cases hfar : op = eomByte ∧ ∃ b ∈ bs.head?, b ∈ farOpcodes
  · obtain ⟨rfl, b, hb, hmem⟩ := hfar
    obtain ⟨rest, rfl⟩ := List.head?_eq_some_iff.mp hb
    obtain ⟨c, hc, hwidth⟩ := exists_farMap_cell hmem
    exact ⟨c, rest, .far hc, by rw [hwidth, List.length_cons]⟩
  · obtain ⟨c, hc⟩ := exists_baseMap_cell op
    have halone : Alone op bs := ⟨fun hop hb => h ⟨hop, hb⟩, fun hop b hb hmem => hfar ⟨hop, b, hb, hmem⟩⟩
    exact ⟨c, bs, .base halone hc, Nat.add_le_add_left c.width_le _⟩

theorem decode_quad_of_unlisted {op : Byte} (hop : op ≠ eomByte) (h : (quadMap ++ reservedMap).lookup op = none)
    (bs : List Byte) : decode (negByte :: negByte :: op :: bs) = .error (.unlistedQuad op) := by
  rw [decode, if_pos ⟨rfl, rfl⟩, decodeQuad, if_neg hop, h]

theorem decode_quadFar_of_unlisted {op : Byte} (h : quadFarMap.lookup op = none) (bs : List Byte) :
    decode (negByte :: negByte :: eomByte :: op :: bs) = .error (.unlistedQuadFar op) := by
  rw [decode, if_pos ⟨rfl, rfl⟩, decodeQuad, if_pos rfl, decodeQuadFar, h]

theorem exists_selects_of_decode_quadFar {bs : List Byte} {r : Instr × List Byte}
    (h : decode (negByte :: negByte :: eomByte :: bs) = .ok r) :
    ∃ c operands, Selects (negByte :: negByte :: eomByte :: bs) c operands := by
  match bs, h with
  | op :: bs, h =>
    cases hlookup : quadFarMap.lookup op with
    | none => cases (decode_quadFar_of_unlisted hlookup bs).symm.trans h
    | some c => exact ⟨c, bs, .quadFar hlookup⟩

theorem exists_selects_of_decode_quad {bs : List Byte} {r : Instr × List Byte}
    (h : decode (negByte :: negByte :: bs) = .ok r) :
    ∃ c operands, Selects (negByte :: negByte :: bs) c operands := by
  match bs, h with
  | op :: bs, h =>
    by_cases hop : op = eomByte
    · subst hop
      exact exists_selects_of_decode_quadFar h
    · cases hlookup : (quadMap ++ reservedMap).lookup op with
      | none => cases (decode_quad_of_unlisted hop hlookup bs).symm.trans h
      | some c => exact ⟨c, bs, .quad hop hlookup⟩

/-- Whatever decodes selects a cell, whose operand bytes are read. -/
theorem exists_selects_of_decode {bs : List Byte} {r : Instr × List Byte} (h : decode bs = .ok r) :
    ∃ c operands, Selects bs c operands ∧ c.read operands = .ok r := by
  suffices hsel : ∃ c operands, Selects bs c operands by
    obtain ⟨c, operands, hsel⟩ := hsel
    exact ⟨c, operands, hsel, decode_eq_read hsel ▸ h⟩
  match bs, h with
  | op :: bs, h =>
    by_cases hquad : op = negByte ∧ negByte ∈ bs.head?
    · obtain ⟨rfl, hb⟩ := hquad
      obtain ⟨bs, rfl⟩ := List.head?_eq_some_iff.mp hb
      exact exists_selects_of_decode_quad h
    · obtain ⟨c, operands, hsel, -⟩ := exists_selects hquad
      exact ⟨c, operands, hsel⟩

theorem baseMap_cell_codes {op : Byte} {c : Cell} (h : baseMap[op.toNat]? = some c) : c.Codes [op] := by
  have hcodes := baseMap_codes _ (List.mk_mem_zipIdx_iff_getElem?.mpr h)
  rwa [BitVec.ofNat_toNat, BitVec.setWidth_eq] at hcodes

/-- The bytes before the operand bytes are those that the cell's instructions are encoded with. -/
theorem Selects.codes {bs operands : List Byte} {c : Cell} (h : Selects bs c operands) :
    ∃ code, bs = code ++ operands ∧ c.Codes code := by
  cases h with
  | base _ hc => exact ⟨_, rfl, baseMap_cell_codes hc⟩
  | far hc => exact ⟨_, rfl, farMap_codes _ (mem_of_lookup_eq_some hc)⟩
  | quad _ hc => exact ⟨_, rfl, quadMap_codes _ (mem_of_lookup_eq_some hc)⟩
  | quadFar hc => exact ⟨_, rfl, quadFarMap_codes _ (mem_of_lookup_eq_some hc)⟩

/-- A cell that leaves all but the first byte is one of the base map. -/
theorem Selects.alone {op : Byte} {bs operands : List Byte} {c : Cell} (h : Selects (op :: bs) c operands)
    (hlength : bs.length ≤ operands.length) : Alone op bs := by
  cases h with
  | base halone _ => exact halone
  | far | quad | quadFar => simp only [List.length_cons] at hlength; omega

/-- Bytes that follow make a difference only where they follow a single byte. -/
theorem Selects.append {bs operands rest : List Byte} {c : Cell} (h : Selects bs c operands)
    (hrest : ∀ op, bs = [op] → Alone op rest) : Selects (bs ++ rest) c (operands ++ rest) := by
  cases h with
  | base halone hc =>
    refine .base ?_ hc
    cases operands with
    | nil => exact hrest _ rfl
    | cons b bs => exact halone
  | far hc => exact .far hc
  | quad hop hc => exact .quad hop hc
  | quadFar hc => exact .quadFar hc

/-! ### The bytes of an instruction -/

/-- The bytes of an instruction by themselves decode to it: the decoder's run on them gives its constructor and operand
bytes, and the two bytes of a word are put together again. -/
theorem decode_encode (i : Instr) : decode (encode i) = .ok (i, []) := by
  cases i <;> conv_lhs => whnf
  all_goals rw [highByte_append_lowByte]

theorem eq_of_encode_eq {i j : Instr} (h : encode i = encode j) : i = j := by
  have hdecode := (decode_encode i).symm.trans (h ▸ decode_encode j)
  simpa only [Except.ok.injEq, Prod.mk.injEq, and_true] using hdecode

/-- An instruction is well-formed before bytes with which its one byte, if it has one only, is read as an opcode. -/
theorem Instr.wf_iff {i : Instr} {rest : List Byte} : i.wf rest = true ↔ ∀ op, encode i = [op] → Alone op rest := by
  constructor
  · intro hwf op hop
    constructor
    · rintro rfl hb
      obtain rfl : i = .neg := eq_of_encode_eq hop
      obtain ⟨rest, rfl⟩ := List.head?_eq_some_iff.mp hb
      cases hwf
    · rintro rfl b hb hfar
      obtain rfl : i = .eom := eq_of_encode_eq hop
      obtain ⟨rest, rfl⟩ := List.head?_eq_some_iff.mp hb
      have hnot : (!farOpcodes.contains b) = true := hwf
      rw [List.contains_iff_mem.mpr hfar] at hnot
      cases hnot
  · intro h
    unfold Instr.wf
    split
    case h_1 b _ =>
      obtain ⟨hneg, -⟩ := h negByte rfl
      exact bne_iff_ne.mpr fun hb => hneg rfl (hb ▸ rfl)
    case h_2 b _ =>
      obtain ⟨-, heom⟩ := h eomByte rfl
      have hfar : b ∉ farOpcodes := heom rfl b rfl
      rw [Bool.not_eq_true', ← Bool.not_eq_true, List.contains_iff_mem]
      exact hfar
    case h_3 => rfl

/-- Settles O1: the bytes of the instruction alone select its cell, and those that follow neither change the choice nor
are read. -/
theorem decodeOfEncode : Obligations.DecodeOfEncode := by
  intro i rest hwf
  obtain ⟨c, bs, hselects, hread⟩ := exists_selects_of_decode (decode_encode i)
  obtain ⟨operands, rfl, hmore, -⟩ := Cell.exists_operands_of_read hread
  rw [List.append_nil] at hselects
  calc decode (encode i ++ rest) = c.read (operands ++ rest) := decode_eq_read (hselects.append (Instr.wf_iff.mp hwf))
    _ = .ok (i, rest) := hmore rest

/-- Settles O2: the row that the decoder chooses has the encoding of its instruction, and a single byte before `rest`
is a row of the base map. -/
theorem encodeOfDecode : Obligations.EncodeOfDecode := by
  intro bs i rest hdecode
  obtain ⟨c, bs', hselects, hread⟩ := exists_selects_of_decode hdecode
  obtain ⟨operands, rfl, -, hencode⟩ := Cell.exists_operands_of_read hread
  obtain ⟨code, rfl, hcodes⟩ := hselects.codes
  have hbytes : code ++ (operands ++ rest) = encode i ++ rest := by rw [hencode code hcodes, List.append_assoc]
  refine ⟨hbytes, Instr.wf_iff.mpr fun op hop => ?_⟩
  rw [hbytes, hop] at hselects
  exact hselects.alone (by rw [List.length_append]; exact Nat.le_add_left ..)

/-- Settles O4: each is the encoding of its instruction. -/
theorem sampleWords : Obligations.SampleWords :=
  ⟨decode_encode (.ldaImm 0x05#8), decode_encode (.ldaAbs 0x1234#16), decode_encode (.phwImmW 0x1234#16),
    decode_encode (.staBp 0x12#8), decode_encode (.bneRel 0xFE#8), decode_encode .map, decode_encode .eom,
    decode_encode .neg, decode_encode (.ldqAbs 0x1234#16), decode_encode (.ldaFarZ 0x45#8),
    decode_encode (.ldqFarZ 0x45#8), decode_encode (.resq15 0x10#8)⟩

/-! ### Lengths -/

theorem length_encode (i : Instr) : (encode i).length = (Machine.formOf i).len := by
  cases i <;> rfl

theorem length_encode_pos (i : Instr) : 1 ≤ (encode i).length := by
  refine List.length_pos_iff.mpr fun hnil => ?_
  cases (decode_encode i).symm.trans (congrArg decode hnil)

theorem length_encode_le (i : Instr) : (encode i).length ≤ 5 := by
  cases i <;> exact Nat.le_of_ble_eq_true rfl

/-- Settles O5. -/
theorem encodedLength : Obligations.EncodedLength := fun i =>
  ⟨length_encode i, length_encode_pos i, length_encode_le i⟩

/-! ### Which byte sequences decode (R121, R122) -/

theorem Cell.exists_read_of_le {c : Cell} {bs : List Byte} (h : c.width ≤ bs.length) : ∃ r, c.read bs = .ok r := by
  obtain ⟨i, hread⟩ := Cell.exists_read (List.length_take_of_le h) (bs.drop c.width)
  rw [List.take_append_drop] at hread
  exact ⟨_, hread⟩

theorem exists_decode_of_not_quad {b0 b1 : Byte} (h : ¬(b0 = negByte ∧ b1 = negByte)) (b2 : Byte) (rest : List Byte) :
    ∃ i r, decode (b0 :: b1 :: b2 :: rest) = .ok (i, r) := by
  have hhead : ¬(b0 = negByte ∧ negByte ∈ (b1 :: b2 :: rest).head?) := fun ⟨h0, h1⟩ => h ⟨h0, Option.some.inj h1⟩
  obtain ⟨c, operands, hselects, hlength⟩ := exists_selects hhead
  have hwidth : c.width ≤ operands.length := by simp only [List.length_cons] at hlength; omega
  obtain ⟨⟨i, r⟩, hread⟩ := Cell.exists_read_of_le hwidth
  exact ⟨i, r, (decode_eq_read hselects).trans hread⟩

/-- The opcodes of a map whose cells read `n` operand bytes. -/
def opcodesOfWidth (n : Nat) (table : List (Byte × Cell)) : List Byte :=
  (table.filter fun p => p.2.width == n).map Prod.fst

theorem mem_opcodesOfWidth {op : Byte} {n : Nat} {table : List (Byte × Cell)} :
    op ∈ opcodesOfWidth n table ↔ ∃ c, (op, c) ∈ table ∧ c.width = n := by
  simp only [opcodesOfWidth, List.mem_map, List.mem_filter, Prod.exists, beq_iff_eq, exists_and_right,
    exists_eq_right]

/-- Every opcode of a map has no, one or two operand bytes. -/
theorem map_fst_perm_opcodesOfWidth (table : List (Byte × Cell)) :
    (table.map Prod.fst).Perm (opcodesOfWidth 0 table ++ opcodesOfWidth 1 table ++ opcodesOfWidth 2 table) := by
  induction table with
  | nil => exact .nil
  | cons p table ih =>
    obtain ⟨op, c⟩ := p
    cases c with
    | f0 i => exact ih.cons op
    | f1 i => exact (ih.cons op).trans (List.perm_middle.symm.append_right _)
    | f2 i | f2br i => exact (ih.cons op).trans List.perm_middle.symm

theorem lookup_eq_some_of_mem {op : Byte} {c : Cell} {table : List (Byte × Cell)} (hnodup : (table.map Prod.fst).Nodup)
    (h : (op, c) ∈ table) : table.lookup op = some c := by
  cases hlookup : table.lookup op with
  | none => exact absurd (List.mem_map_of_mem h) (lookup_eq_none_iff_notMem.mp hlookup)
  | some c' =>
    have heq : (op, c') = (op, c) := List.inj_on_of_nodup_map hnodup (mem_of_lookup_eq_some hlookup) h rfl
    exact congrArg (some ·.2) heq

theorem nodup_quadMap_opcodes : ((quadMap ++ reservedMap).map Prod.fst).Nodup := by decide

/-- A Q opcode whose cell reads `n` operand bytes decodes with any `n` of them. -/
theorem exists_decode_quad {op : Byte} {n : Nat} (hop : op ∈ opcodesOfWidth n (quadMap ++ reservedMap))
    {operands : List Byte} (hlength : operands.length = n) (rest : List Byte) :
    ∃ i, decode (negByte :: negByte :: op :: (operands ++ rest)) = .ok (i, rest) := by
  have heom : eomByte ∉ (quadMap ++ reservedMap).map Prod.fst := by decide
  obtain ⟨c, hc, hwidth⟩ := mem_opcodesOfWidth.mp hop
  have hne : op ≠ eomByte := fun heq => heom (heq ▸ List.mem_map_of_mem hc)
  rw [decode_eq_read (.quad hne (lookup_eq_some_of_mem nodup_quadMap_opcodes hc))]
  exact Cell.exists_read (hlength.trans hwidth.symm) rest

theorem exists_decode_quadFar {op : Byte} (hop : op ∈ farOpcodes) (nn : Byte) (rest : List Byte) :
    ∃ i, decode (negByte :: negByte :: eomByte :: op :: nn :: rest) = .ok (i, rest) := by
  obtain ⟨c, hc, hwidth⟩ := exists_quadFarMap_cell hop
  rw [decode_eq_read (.quadFar hc)]
  exact Cell.exists_read (operands := [nn]) hwidth.symm rest

/-- Settles O3: the lists of opcodes are those of the maps, by the number of their operand bytes. -/
theorem decodeTotality : Obligations.DecodeTotality := by
  unfold Obligations.DecodeTotality
  intro bare one two reservedOne reservedTwo far listed
  have hbare : bare = opcodesOfWidth 0 (quadMap ++ reservedMap) := rfl
  have hone : one ++ reservedOne = opcodesOfWidth 1 (quadMap ++ reservedMap) := rfl
  have htwo : two ++ reservedTwo = opcodesOfWidth 2 (quadMap ++ reservedMap) := rfl
  have hlisted : ((quadMap ++ reservedMap).map Prod.fst).Perm listed := by
    rw [List.map_append]
    exact (map_fst_perm_opcodesOfWidth quadMap).append (map_fst_perm_opcodesOfWidth reservedMap)
  refine ⟨fun b0 b1 b2 rest h => exists_decode_of_not_quad h b2 rest, rfl, rfl,
    hlisted.nodup_iff.mp nodup_quadMap_opcodes, rfl, fun op => hlisted.mem_iff,
    fun op hop => exists_decode_quad (operands := []) (hbare ▸ hop) rfl,
    fun op hop nn => exists_decode_quad (operands := [nn]) (hone ▸ hop) rfl,
    fun op hop ll hh => exists_decode_quad (operands := [ll, hh]) (htwo ▸ hop) rfl,
    fun op hop => exists_decode_quadFar hop, ?quad, ?quadFar⟩
  case quad =>
    intro op rest hop hnot
    exact decode_quad_of_unlisted hop (lookup_eq_none_iff_notMem.mpr fun hmem => hnot (hlisted.mem_iff.mp hmem)) rest
  case quadFar =>
    intro op rest hnot
    exact decode_quadFar_of_unlisted (lookup_eq_none_iff_notMem.mpr hnot) rest

end Sys2Proof

/-! LDQ and STQ (`41_q_load_store.md` R190 to R192): with a plain pointer and plain bytes, or bytes of RAM, each is its four
accesses at the address computed from the registers before them, and the end of the instruction. -/

namespace Sys2Proof.Machine

theorem Flags.nz_quad (fl : Flags) (v : Quad) :
    fl.nz v = { fl with n := v.getLsbD 31, z := v == 0x00000000#32 } := rfl

section
variable {i : Instr} {s : State} {m : MemMode} {len : Nat} {pl : Place} (hplace : s.place m = some pl)
include hplace

/-- A plain pointer gives the address, whatever PC is. -/
theorem Ctx.start_ea_of_place : (Ctx.start len s).ea m = (pl, Ctx.of (s.advance len)) :=
  Ctx.ea_of_place (c := Ctx.of (s.advance len)) hplace

theorem exec_loadQ_of_peek32 {v : Quad} (hform : formOf i = .loadQ m len) (hpeek : s.peek32 pl = some v) :
    exec i s = .next ((s.advance len).setQFlags v (s.fl.nz v)) := by
  have hread : (Ctx.of (s.advance len)).read32 pl = (v, Ctx.of (s.advance len)) := Ctx.read32_of_peek32 hpeek
  rw [exec_form, hform, Form.run, State.loadQ, Ctx.start_ea_of_place hplace]
  simp only [hread]
  rfl

/-- The four bytes stored are those of Q, the least significant one first (R24, R191). -/
theorem exec_storeQ_of_ramAt {p0 p1 p2 p3 : Phys} (hform : formOf i = .storeQ m len) (h0 : s.ramAt pl = some p0)
    (h1 : s.ramAt (pl.plus 1) = some p1) (h2 : s.ramAt (pl.plus 2) = some p2) (h3 : s.ramAt (pl.plus 3) = some p3) :
    exec i s = .next ((s.advance len).storeAll [(p0, s.a), (p1, s.x), (p2, s.y), (p3, s.z)]) := by
  have hwrite := Ctx.write32_of_ramAt (c := Ctx.of (s.advance len)) h0 h1 h2 h3 (s.advance len).q
  rw [State.q_byte0, State.q_byte1, State.q_byte2, State.q_byte3] at hwrite
  rw [exec_form, hform, Form.run, State.storeQ, Ctx.start_ea_of_place hplace]
  exact congrArg Ctx.done hwrite

end

/-- Settles O21: the plain quad goes to the four registers of Q, and the flags are those of all its bits. -/
theorem loadQResult : Obligations.LoadQResult := by
  refine ⟨fun i s m len pl v hform hplace hpeek => ?_,
    fun nn a => ⟨⟨rfl, rfl⟩, ⟨rfl, rfl⟩, ⟨rfl, rfl⟩, ⟨rfl, rfl⟩⟩⟩
  rw [exec_loadQ_of_peek32 hplace hform hpeek, Flags.nz_quad]
  rfl

/-- Settles O22: the four bytes of Q are stored in RAM, and only they. -/
theorem storeQResult : Obligations.StoreQResult := by
  refine ⟨fun i s m len pl p0 p1 p2 p3 hform hplace h0 h1 h2 h3 => ?_,
    fun nn a => ⟨⟨rfl, rfl⟩, ⟨rfl, rfl⟩, ⟨rfl, rfl⟩, ⟨rfl, rfl⟩⟩⟩
  exact ⟨exec_storeQ_of_ramAt hplace hform h0 h1 h2 h3, State.writes_storeAll rfl _⟩

end Sys2Proof.Machine

/-! ADCQ, SBCQ, CMPQ, ANDQ, ORQ, EORQ, BITQ (`42_q_arith_logic.md` R200 to R207): addition and subtraction with carry as
arithmetic at every width, what each of these instructions does with a plain operand, and the flags that each keeps
whatever its operand's reads do. -/

namespace Sys2Proof.Machine

/-! ### Addition and subtraction with carry, as arithmetic (R200, R201, R340, R341) -/

/-- One bit more than `w` holds the whole sum. -/
theorem toNat_carrySum {w : Nat} (x y : BitVec w) (cin : Bool) :
    (x.setWidth (w + 1) + y.setWidth (w + 1) + (BitVec.ofBool cin).setWidth (w + 1)).toNat =
      x.toNat + y.toNat + cin.toNat := by
  have hpow : 2 ^ (w + 1) = 2 * 2 ^ w := by rw [Nat.pow_succ, Nat.mul_comm]
  have hcin : cin.toNat ≤ 1 := Bool.toNat_le cin
  simp only [BitVec.toNat_add, BitVec.toNat_setWidth, BitVec.toNat_ofBool, Nat.add_mod_mod, Nat.mod_add_mod]
  exact Nat.mod_eq_of_lt (by omega)

theorem addWithCarry_eq {w : Nat} (x y : BitVec w) (cin : Bool) :
    let sum := x.toNat + y.toNat + cin.toNat
    let r := BitVec.ofNat w sum
    addWithCarry x y cin = { r := r, c := decide (2 ^ w ≤ sum), v := x.msb == y.msb && r.msb != x.msb } := by
  intro sum r
  have hr : (x.setWidth (w + 1) + y.setWidth (w + 1) + (BitVec.ofBool cin).setWidth (w + 1)).setWidth w = r := by
    rw [← BitVec.ofNat_toNat, toNat_carrySum]
  simp only [addWithCarry, hr, BitVec.msb_eq_decide (_ : BitVec (w + 1)), toNat_carrySum, Nat.add_sub_cancel]
  rfl

/-- Subtraction adds the complement, so its sum is the difference and 2^w more. -/
theorem subWithCarry_eq {w : Nat} (x y : BitVec w) (cin : Bool) :
    let diff : Int := x.toNat - y.toNat - 1 + cin.toNat
    let r := BitVec.ofInt w diff
    subWithCarry x y cin = { r := r, c := decide (0 ≤ diff), v := x.msb != y.msb && r.msb != x.msb } := by
  intro diff r
  have hsum : ((x.toNat + (~~~y).toNat + cin.toNat : Nat) : Int) = diff + (2 ^ w : Nat) := by
    have hlt := y.isLt
    rw [BitVec.toNat_not]
    omega
  have hr : (x.setWidth (w + 1) + (~~~y).setWidth (w + 1) + (BitVec.ofBool cin).setWidth (w + 1)).setWidth w = r := by
    rw [← BitVec.ofNat_toNat, toNat_carrySum, ← BitVec.ofInt_natCast, hsum]
    apply BitVec.eq_of_toNat_eq
    simp [r, BitVec.toNat_ofInt]
  have hc : 2 ^ w ≤ x.toNat + (~~~y).toNat + cin.toNat ↔ 0 ≤ diff := by omega
  simp only [subWithCarry, hr, BitVec.msb_eq_decide (_ : BitVec (w + 1)), toNat_carrySum, Nat.add_sub_cancel, hc]

/-- A comparison is a subtraction with the carry set, of which V is dropped (R202, R342). -/
theorem Flags.compare_eq {w : Nat} (fl : Flags) (x y : BitVec w) :
    fl.compare x y = { fl with n := (x - y).msb, z := x == y, c := decide (y.toNat ≤ x.toNat) } := by
  have hdiff : (x.toNat - y.toNat - 1 + true.toNat : Int) = x.toNat - y.toNat := by
    rw [Bool.toNat_true]
    omega
  have hr : BitVec.ofInt w (x.toNat - y.toNat) = x - y := by
    rw [Int.sub_eq_add_neg, BitVec.ofInt_add, BitVec.ofInt_neg, BitVec.ofInt_natCast, BitVec.ofInt_natCast,
      BitVec.ofNat_toNat, BitVec.ofNat_toNat, BitVec.setWidth_eq, BitVec.setWidth_eq, BitVec.sub_eq_add_neg]
  have hz : (x - y == 0#w) = (x == y) := by
    rw [Bool.eq_iff_iff, beq_iff_eq, beq_iff_eq, BitVec.sub_eq_iff_eq_add, BitVec.zero_add]
  have hc : (0 : Int) ≤ x.toNat - y.toNat ↔ y.toNat ≤ x.toNat := by omega
  simp only [Flags.compare, subWithCarry_eq, hdiff, hr, Flags.nzc, Flags.nz, hz, hc]

/-- The two top bits of the operand, and whether it has a bit in common with Q (R206). -/
theorem Flags.bitTest_quad (fl : Flags) (x v : Quad) :
    fl.bitTest x v = { fl with n := v.getLsbD 31, v := v.getLsbD 30, z := (x &&& v) == 0x00000000#32 } := rfl

/-! ### Plain operands -/

section
variable {i : Instr} {s : State} {op : AluOp} {m : MemMode} {len : Nat} {pl : Place} {v : Quad}

/-- ADCQ and SBCQ have no meaning with D = 1 (R200, R201). -/
theorem exec_aluQ_decimal {why : Refusal} (hform : formOf i = .aluQ op m len) (hdec : s.fl.d = true)
    (hstop : op.decimalStop = some why) : exec i s = .refused why := by
  rw [exec_form, hform, Form.run, State.aluQ, hdec, if_pos rfl, hstop]

variable (hplace : s.place m = some pl) (hpeek : s.peek32 pl = some v)

include hpeek in
/-- A plain quad is read whatever PC is, and nothing changes. -/
theorem Ctx.read32_advance_of_peek32 :
    (Ctx.of (s.advance len)).read32 pl = (v, Ctx.of (s.advance len)) := Ctx.read32_of_peek32 hpeek

include hplace hpeek

/-- With D = 0, or for an operation that has no decimal form, the operation is run on Q and the operand. -/
theorem exec_aluQ_of_peek32 (hform : formOf i = .aluQ op m len) (hbin : s.fl.d = true → op.decimalStop = none) :
    exec i s = .next (op.run32 v (s.advance len)) := by
  have hgo : (if s.fl.d then op.decimalStop else none) = none := by
    split
    case isTrue hdec => exact hbin hdec
    case isFalse => rfl
  rw [exec_form, hform, Form.run, State.aluQ, hgo, Ctx.start_ea_of_place hplace]
  simp only [Ctx.read32_advance_of_peek32 hpeek]
  rfl

theorem exec_compareQ_of_peek32 (hform : formOf i = .compareQ m len) :
    exec i s = .next { s.advance len with fl := s.fl.compare s.q v } := by
  rw [exec_form, hform, Form.run, State.compareQ, Ctx.start_ea_of_place hplace]
  simp only [Ctx.read32_advance_of_peek32 hpeek]
  rfl

theorem exec_bitQ_of_peek32 (hform : formOf i = .bitQ m len) :
    exec i s = .next { s.advance len with fl := s.fl.bitTest s.q v } := by
  rw [exec_form, hform, Form.run, State.bitQ, Ctx.start_ea_of_place hplace]
  simp only [Ctx.read32_advance_of_peek32 hpeek]
  rfl

end

/-- Settles O23: the encodings, the refusal, and the 32-bit sum. -/
theorem adcqResult : Obligations.AdcqResult := by
  refine ⟨fun nn a => ⟨⟨rfl, rfl⟩, ⟨rfl, rfl⟩, ⟨rfl, rfl⟩, ⟨rfl, rfl⟩⟩, fun i s m len hform =>
    ⟨fun hdec => exec_aluQ_decimal hform hdec rfl, fun pl v hbin hplace hpeek => ?_⟩⟩
  rw [exec_aluQ_of_peek32 hplace hpeek hform (by simp [hbin]), AluOp.run32, addWithCarry_eq]
  rfl

/-- Settles O24: the encodings, the refusal, and the 32-bit difference. -/
theorem sbcqResult : Obligations.SbcqResult := by
  refine ⟨fun nn a => ⟨⟨rfl, rfl⟩, ⟨rfl, rfl⟩, ⟨rfl, rfl⟩, ⟨rfl, rfl⟩⟩, fun i s m len hform =>
    ⟨fun hdec => exec_aluQ_decimal hform hdec rfl, fun pl v hbin hplace hpeek => ?_⟩⟩
  rw [exec_aluQ_of_peek32 hplace hpeek hform (by simp [hbin]), AluOp.run32, subWithCarry_eq]
  rfl

/-- Settles O25. -/
theorem cmpqResult : Obligations.CmpqResult := by
  refine ⟨fun nn a => ⟨⟨rfl, rfl⟩, ⟨rfl, rfl⟩, ⟨rfl, rfl⟩, ⟨rfl, rfl⟩⟩,
    fun i s m len pl v hform hplace hpeek => ?_⟩
  rw [exec_compareQ_of_peek32 hplace hpeek hform, Flags.compare_eq]
  rfl

/-- Settles O26: none of the three operations has a decimal form, so D plays no part. -/
theorem andqEorqResult : Obligations.AndqEorqResult := by
  refine ⟨fun nn a => ⟨⟨rfl, rfl⟩, ⟨rfl, rfl⟩, ⟨rfl, rfl⟩, ⟨rfl, rfl⟩, ⟨rfl, rfl⟩, ⟨rfl, rfl⟩, ⟨rfl, rfl⟩,
    ⟨rfl, rfl⟩, ⟨rfl, rfl⟩, ⟨rfl, rfl⟩, ⟨rfl, rfl⟩, ⟨rfl, rfl⟩⟩, fun i s m len pl v hplace hpeek => ?_⟩
  exact ⟨fun hform => exec_aluQ_of_peek32 hplace hpeek hform fun _ => rfl,
    fun hform => exec_aluQ_of_peek32 hplace hpeek hform fun _ => rfl,
    fun hform => exec_aluQ_of_peek32 hplace hpeek hform fun _ => rfl⟩

/-- Settles O27. -/
theorem bitqResult : Obligations.BitqResult := by
  refine ⟨fun i s m len pl v hform hplace hpeek => ?_, fun nn a => ⟨⟨rfl, rfl⟩, ⟨rfl, rfl⟩⟩⟩
  rw [exec_bitQ_of_peek32 hplace hpeek hform, Flags.bitTest_quad]

/-! ### Operands of any kind: what a chain of reads keeps (R207) -/

theorem Ctx.read8_frame (pl : Place) (c : Ctx) : ReadFrame c (c.read8 pl).2 := Ctx.readTarget_frame ..

theorem Ctx.read16_frame (pl : Place) (c : Ctx) : ReadFrame c (c.read16 pl).2 :=
  (Ctx.read8_frame ..).trans (Ctx.read8_frame ..)

theorem Ctx.read32_frame (pl : Place) (c : Ctx) : ReadFrame c (c.read32 pl).2 :=
  (((Ctx.read8_frame ..).trans (Ctx.read8_frame ..)).trans (Ctx.read8_frame ..)).trans (Ctx.read8_frame ..)

theorem Ctx.pointer16_frame (nn : Byte) (c : Ctx) : ReadFrame c (c.pointer16 nn).2 :=
  (Ctx.read8_frame ..).trans (Ctx.read8_frame ..)

theorem Ctx.pointer32_frame (nn : Byte) (c : Ctx) : ReadFrame c (c.pointer32 nn).2 :=
  (((Ctx.read8_frame ..).trans (Ctx.read8_frame ..)).trans (Ctx.read8_frame ..)).trans (Ctx.read8_frame ..)

theorem Ctx.ea_frame (m : MemMode) (c : Ctx) : ReadFrame c (c.ea m).2 := by
  cases m
  case bpXInd | bpIndY | bpIndZ | bpInd => exact Ctx.pointer16_frame ..
  case farZ | far => exact Ctx.pointer32_frame ..
  case spIndY => exact Ctx.read16_frame ..
  all_goals exact .refl c

/-- Reads keep the flags and ask for no trap return, so an instruction that only reads ends in its last update. -/
theorem ReadFrame.next_done {s t : State} {c : Ctx} {f : State → State} (h : ReadFrame (Ctx.of s) c)
    (hdone : (c.upd f).done = .next t) : ∃ u, u.fl = s.fl ∧ t = f u := by
  refine ⟨c.st, ?_, ?_⟩ <;> obtain ⟨_, _, _, _, rfl⟩ := h
  · rfl
  · exact (Host.Outcome.next.inj hdone).symm

/-! ### The flags that each instruction writes (R207) -/

theorem AluOp.run32_fl (op : AluOp) (w : Quad) (s : State) :
    ∃ n v z c, (op.run32 w s).fl = { s.fl with n := n, v := v, z := z, c := c } := by
  cases op <;> exact ⟨_, _, _, _, rfl⟩

theorem AluOp.run32_fl_of_logic {op : AluOp} (hadc : op ≠ .adc) (hsbc : op ≠ .sbc) (w : Quad) (s : State) :
    ∃ n z, (op.run32 w s).fl = { s.fl with n := n, z := z } := by
  cases op with
  | adc => exact absurd rfl hadc
  | sbc => exact absurd rfl hsbc
  | and | ora | eor => exact ⟨_, _, rfl⟩

section
variable {i : Instr} {s t : State} {op : AluOp} {m : MemMode} {len : Nat} (hnext : exec i s = .next t)
include hnext

theorem exec_aluQ_next (hform : formOf i = .aluQ op m len) :
    ∃ (w : Quad) (u : State), u.fl = s.fl ∧ t = op.run32 w u := by
  rw [exec_form, hform, Form.run, State.aluQ] at hnext
  split at hnext
  · cases hnext
  · exact ⟨_, ReadFrame.next_done (s := s.advance len) ((Ctx.ea_frame ..).trans (Ctx.read32_frame ..)) hnext⟩

/-- ADCQ, SBCQ, ANDQ, ORQ, EORQ write at most N, V, Z and C. -/
theorem exec_aluQ_fl (hform : formOf i = .aluQ op m len) :
    ∃ n v z c, t.fl = { s.fl with n := n, v := v, z := z, c := c } := by
  obtain ⟨w, u, hu, rfl⟩ := exec_aluQ_next hnext hform
  exact hu ▸ op.run32_fl w u

/-- ANDQ, ORQ, EORQ write N and Z. -/
theorem exec_aluQ_fl_of_logic (hadc : op ≠ .adc) (hsbc : op ≠ .sbc) (hform : formOf i = .aluQ op m len) :
    ∃ n z, t.fl = { s.fl with n := n, z := z } := by
  obtain ⟨w, u, hu, rfl⟩ := exec_aluQ_next hnext hform
  exact hu ▸ AluOp.run32_fl_of_logic hadc hsbc w u

/-- CMPQ writes N, Z and C. -/
theorem exec_compareQ_fl (hform : formOf i = .compareQ m len) :
    ∃ n z c, t.fl = { s.fl with n := n, z := z, c := c } := by
  rw [exec_form, hform, Form.run, State.compareQ] at hnext
  obtain ⟨u, hu, rfl⟩ :=
    ReadFrame.next_done (s := s.advance len) ((Ctx.ea_frame ..).trans (Ctx.read32_frame ..)) hnext
  rw [State.advance_fl] at hu
  exact hu ▸ ⟨_, _, _, rfl⟩

/-- BITQ writes N, V and Z. -/
theorem exec_bitQ_fl (hform : formOf i = .bitQ m len) :
    ∃ n v z, t.fl = { s.fl with n := n, v := v, z := z } := by
  rw [exec_form, hform, Form.run, State.bitQ] at hnext
  obtain ⟨u, hu, rfl⟩ :=
    ReadFrame.next_done (s := s.advance len) ((Ctx.ea_frame ..).trans (Ctx.read32_frame ..)) hnext
  rw [State.advance_fl] at hu
  exact hu ▸ ⟨_, _, _, rfl⟩

end

/-- Settles O28, form by form: each writes the flags of its own line and no other. -/
theorem qFlagsNotNamed : Obligations.QFlagsNotNamed := by
  intro i s t m len hnext
  refine ⟨?edi, ?v, ?c⟩
  case edi =>
    rintro (⟨op, hform⟩ | hform | hform)
    · obtain ⟨n, v, z, c, hfl⟩ := exec_aluQ_fl hnext hform
      simp [hfl]
    · obtain ⟨n, z, c, hfl⟩ := exec_compareQ_fl hnext hform
      simp [hfl]
    · obtain ⟨n, v, z, hfl⟩ := exec_bitQ_fl hnext hform
      simp [hfl]
  case v =>
    rintro (⟨op, hadc, hsbc, hform⟩ | hform)
    · obtain ⟨n, z, hfl⟩ := exec_aluQ_fl_of_logic hnext hadc hsbc hform
      simp [hfl]
    · obtain ⟨n, z, c, hfl⟩ := exec_compareQ_fl hnext hform
      simp [hfl]
  case c =>
    rintro (⟨op, hadc, hsbc, hform⟩ | hform)
    · obtain ⟨n, z, hfl⟩ := exec_aluQ_fl_of_logic hnext hadc hsbc hform
      simp [hfl]
    · obtain ⟨n, v, z, hfl⟩ := exec_bitQ_fl hnext hform
      simp [hfl]

end Sys2Proof.Machine

/-! RESQ and RSVQ (`44_far_indirect.md` R248, R249): every row of the map of the reserved Q opcodes makes instructions of
the reserved form, and an instruction of that form is refused whatever the state is. -/

namespace Sys2Proof

open Machine

/-- Every instruction of the cell has the reserved form, `42 42`, the opcode and the operand bytes long. -/
inductive Cell.MakesReserved : Cell → Prop
  | f1 {i : Byte → Instr} (h : ∀ nn, formOf (i nn) = .reserved 4) : MakesReserved (.f1 i)
  | f2 {i : Word → Instr} (h : ∀ a, formOf (i a) = .reserved 5) : MakesReserved (.f2 i)

/-- Two bytes are operands enough, and whatever they are the instruction read is a reserved one. -/
theorem Cell.MakesReserved.exists_read {c : Cell} (h : c.MakesReserved) (v w : Byte) :
    ∃ i rest n, c.read [v, w] = .ok (i, rest) ∧ formOf i = .reserved n := by
  cases h with
  | @f1 i hform => exact ⟨i v, [w], 4, rfl, hform v⟩
  | @f2 i hform => exact ⟨i (w ++ v), [], 5, rfl, hform (w ++ v)⟩

theorem reservedMap_makesReserved : ∀ p ∈ reservedMap, p.2.MakesReserved := by
  rw [← List.forall_iff_forall_mem]
  repeat' constructor
  all_goals intro; rfl

/-- No reserved opcode is `EA` or one of another row, so `42 42` and the opcode select its row. -/
theorem Selects.reserved {op : Byte} {c : Cell} (h : (op, c) ∈ reservedMap) (bs : List Byte) :
    Selects (negByte :: negByte :: op :: bs) c bs := by
  have heom : eomByte ∉ reservedMap.map Prod.fst := by decide
  have hne : op ≠ eomByte := fun heq => heom (heq ▸ List.mem_map_of_mem h)
  exact .quad hne (lookup_eq_some_of_mem nodup_quadMap_opcodes (List.mem_append_right _ h))

theorem exec_reserved {i : Instr} {n : Nat} (hform : formOf i = .reserved n) (s : State) :
    exec i s = .refused .reservedEncoding := by
  rw [exec_form, hform, Form.run, State.reserved]

/-- Settles O9: the 39 opcodes are those of the map of the reserved ones, whose rows make reserved instructions only. -/
theorem reservedRefused : Obligations.ReservedRefused := by
  intro op hlisted v w
  have hop : op ∈ reservedMap.map Prod.fst := hlisted
  obtain ⟨⟨_, c⟩, hc, rfl⟩ := List.mem_map.mp hop
  obtain ⟨i, rest, n, hread, hform⟩ := (reservedMap_makesReserved _ hc).exists_read v w
  exact ⟨i, rest, (decode_eq_read (.reserved hc _)).trans hread, exec_reserved hform⟩

end Sys2Proof

/-! MAP and EOM (`45_map_prefix_system.md` R260, R261): the offset and enable bits that MAP packs from a register pair, as
numbers, and the whole next state of both instructions. -/

namespace Sys2Proof.Machine

/-! ### A half's offset and enables, from its two registers (R260) -/

/-- The upper register's low nibble stands above the lower register. -/
theorem toNat_lowNibble_append (u v : Byte) : (u.extractLsb' 0 4 ++ v).toNat = 256 * (u.toNat % 16) + v.toNat := by
  rw [toNat_append_eq_add, BitVec.extractLsb'_toNat, Nat.shiftRight_zero]
  omega

theorem toNat_highNibble (u : Byte) : (u.extractLsb' 4 4).toNat = u.toNat / 16 := by
  have hu := u.isLt
  rw [BitVec.extractLsb'_toNat, Nat.shiftRight_eq_div_pow]
  omega

/-! ### The next state -/

/-- The registers that MAP loads are those at its opcode: PC plays no part in them. -/
theorem State.mapped_advance (s : State) (len : Nat) : (s.advance len).mapped = s.mapped := rfl

section
variable {i : Instr} {s : State} {len : Nat}

theorem exec_loadMap (hform : formOf i = .loadMap len) :
    exec i s = .next { s.advance len with map := s.mapped, mapInhibit := true } := by
  rw [exec_form, hform, Form.run, State.loadMap, Ctx.start_eq, Ctx.upd_of, Ctx.done_of, State.mapped_advance]

theorem exec_endMap (hform : formOf i = .endMap len) :
    exec i s = .next { s.advance len with mapInhibit := false } := by
  rw [exec_form, hform, Form.run, State.endMap, Ctx.start_eq, Ctx.upd_of, Ctx.done_of]

end

/-- Settles O44: MAP loads `s.mapped`, whose fields are then read off as numbers, half by half. -/
theorem mapAndEom : Obligations.MapAndEom := by
  refine fun s => ⟨⟨s.mapped, exec_loadMap rfl, ?loOff, ?loEn, ?hiOff, ?hiEn, rfl, rfl⟩, exec_endMap rfl⟩
  case loOff => exact toNat_lowNibble_append s.x s.a
  case loEn => exact toNat_highNibble s.x
  case hiOff => exact toNat_lowNibble_append s.z s.y
  case hiEn => exact toNat_highNibble s.z

end Sys2Proof.Machine

/-! Loads, stores and transfers, pushes and pulls (`46_base_load_store_transfer.md` R280 to R311): moves of SP that add up,
bytes pushed one after another, P as the byte pushed, and the whole next state of each shared operation. -/

namespace Sys2Proof.Machine

/-! ### Moves of SP (R26, R31, R300) -/

theorem State.spPlus_of_page {s : State} (h : s.fl.e = true) (d : Word) :
    s.spPlus d = s.sph ++ (s.spl + d.setWidth 8) := if_pos h

theorem State.spPlus_of_word {s : State} (h : s.fl.e = false) (d : Word) : s.spPlus d = (s.sph ++ s.spl) + d :=
  if_neg (by simp [h])

theorem State.withSp_append (s : State) (hi lo : Byte) : s.withSp (hi ++ lo) = { s with sph := hi, spl := lo } := by
  rw [State.withSp, ← highByte, ← lowByte, highByte_append, lowByte_append]

theorem State.withSp_sp (s : State) (w : Word) : (s.withSp w).sph ++ (s.withSp w).spl = w := highByte_append_lowByte w

theorem State.spPlus_zero (s : State) : s.spPlus 0x0000#16 = s.sph ++ s.spl := by
  cases he : s.fl.e with
  | true => rw [State.spPlus_of_page he, BitVec.setWidth_zero, BitVec.add_zero]
  | false => rw [State.spPlus_of_word he, BitVec.add_zero]

/-- Two moves of SP are one by their sum, inside the page as over 16 bits. -/
theorem State.spPlus_withSp (s : State) (d d' : Word) : (s.withSp (s.spPlus d)).spPlus d' = s.spPlus (d + d') := by
  cases he : s.fl.e with
  | true =>
    rw [State.spPlus_of_page he d, State.withSp_append, State.spPlus_of_page (by exact he), State.spPlus_of_page he,
      BitVec.setWidth_add _ _ (by decide), BitVec.add_assoc]
  | false =>
    rw [State.spPlus_of_word (by exact he), State.withSp_sp, State.spPlus_of_word he, State.spPlus_of_word he,
      BitVec.add_assoc]

/-! ### Bytes pushed (R300) -/

/-- The state with bytes of memory replaced in order and SP moved by `d` in all. -/
def State.pushed (s : State) (ws : List (Phys × Byte)) (d : Word) : State := (s.storeAll ws).withSp (s.spPlus d)

theorem State.pushed_nil (s : State) : s.pushed [] 0x0000#16 = s := by
  rw [State.pushed, State.spPlus_zero, State.withSp_append]
  rfl

/-- SP is no part of memory. -/
theorem State.writes_pushed {s t : State} (h : t.mem = s.mem) (ws : List (Phys × Byte)) (d : Word) :
    Writes s (t.pushed ws d) ws := State.writes_storeAll h ws

theorem State.pushed_ramAt (s : State) (ws : List (Phys × Byte)) (d : Word) (pl : Place) :
    (s.pushed ws d).ramAt pl = s.ramAt pl := by
  rw [State.pushed, State.storeAll_eq]
  rfl

theorem State.pushed_spPlus (s : State) (ws : List (Phys × Byte)) (d d' : Word) :
    (s.pushed ws d).spPlus d' = s.spPlus (d + d') := by
  rw [State.pushed, State.storeAll_eq, ← State.spPlus_withSp]
  rfl

/-- A byte of RAM written at SP is one more byte pushed. -/
theorem State.pushed_push (s : State) (ws : List (Phys × Byte)) (d : Word) (p : Phys) (v : Byte) :
    ((s.pushed ws d).setCell p v).moveSp 0xFFFF#16 = s.pushed (ws ++ [(p, v)]) (d + 0xFFFF#16) := by
  have hsp : ((s.pushed ws d).setCell p v).spPlus 0xFFFF#16 = s.spPlus (d + 0xFFFF#16) := State.pushed_spPlus ..
  rw [State.moveSp_eq, hsp, State.pushed, State.pushed, State.storeAll, State.storeAll, List.foldl_append]
  rfl

/-- After other pushes, a push to RAM writes its byte at SP as they have left it. -/
theorem Ctx.push8_pushed {s : State} {d : Word} {p : Phys} (h : s.ramAt (.cpu (s.spPlus d)) = some p)
    (ws : List (Phys × Byte)) (v : Byte) :
    (Ctx.of (s.pushed ws d)).push8 v = Ctx.of (s.pushed (ws ++ [(p, v)]) (d + 0xFFFF#16)) := by
  have hsp : (s.pushed ws d).sp = s.spPlus d := State.withSp_sp ..
  have hram : (s.pushed ws d).ramAt (.cpu (s.pushed ws d).sp) = some p := by rw [State.pushed_ramAt, hsp, h]
  rw [Ctx.push8_of_ramAt (c := Ctx.of (s.pushed ws d)) hram, ← State.pushed_push]
  rfl

/-- The first push writes at SP. -/
theorem Ctx.push8_first {s : State} {p : Phys} (h : s.ramAt (.cpu (s.sph ++ s.spl)) = some p) (v : Byte) :
    (Ctx.of s).push8 v = Ctx.of (s.pushed [(p, v)] 0xFFFF#16) := by
  have hpush := Ctx.push8_pushed (d := 0x0000#16) (by rw [State.spPlus_zero, h]) [] v
  rwa [State.pushed_nil, BitVec.zero_add] at hpush

/-- A word is two bytes pushed, the high one first. -/
theorem Ctx.push16_first {s : State} {p0 p1 : Phys} (h0 : s.ramAt (.cpu (s.sph ++ s.spl)) = some p0)
    (h1 : s.ramAt (.cpu (s.spPlus 0xFFFF#16)) = some p1) (w : Word) :
    (Ctx.of s).push16 w = Ctx.of (s.pushed [(p0, highByte w), (p1, lowByte w)] 0xFFFE#16) := by
  rw [Ctx.push16, Ctx.push8_first h0]
  exact Ctx.push8_pushed h1 [(p0, highByte w)] (lowByte w)

/-- The byte whose bits 7 to 0 are N, V, E, 1, D, I, Z and C is the one that PHP packs (R28, R305). -/
theorem Flags.eq_pack_of_bits {fl : Flags} {b : Bool} {v : Byte}
    (h : [v.getLsbD 7, v.getLsbD 6, v.getLsbD 5, v.getLsbD 4, v.getLsbD 3, v.getLsbD 2, v.getLsbD 1, v.getLsbD 0] =
      [fl.n, fl.v, fl.e, b, fl.d, fl.i, fl.z, fl.c]) : v = fl.pack b := by
  simp only [List.cons.injEq, and_true] at h
  obtain ⟨h7, h6, h5, h4, h3, h2, h1, h0⟩ := h
  rw [Flags.pack, ← h7, ← h6, ← h5, ← h4, ← h3, ← h2, ← h1, ← h0]
  apply BitVec.eq_of_getLsbD_eq
  intro k hk
  interval_cases k <;> simp only [BitVec.getLsbD_append, BitVec.getLsbD_ofBool] <;> rfl

/-! ### The next state of each shared operation -/

theorem State.advance_reg (s : State) (len : Nat) (r : Reg) : (s.advance len).reg r = s.reg r := by cases r <;> rfl

section
variable {i : Instr} {s : State} {len : Nat}

theorem exec_load_of_value {r : Reg} {src : Source} {v : Byte} (hform : formOf i = .load r src len)
    (hvalue : s.value src = some v) : exec i s = .next ((s.advance len).setRegNZ r v) := by
  have hoperand : (Ctx.start len s).operand src = (v, Ctx.start len s) := Ctx.operand_of_value hvalue
  rw [exec_form, hform, Form.run, State.load, hoperand]
  rfl

theorem exec_store_of_ramAt {r : Reg} {m : MemMode} {pl : Place} {p : Phys} (hform : formOf i = .store r m len)
    (hplace : s.place m = some pl) (hram : s.ramAt pl = some p) :
    exec i s = .next ((s.advance len).storeAll [(p, s.reg r)]) :=
  exec_store_of_upd (f := fun t => t.setCell p (s.reg r)) hform hplace
    (Ctx.write8_of_ramAt (c := Ctx.of (s.advance len)) hram _)

theorem exec_transferNZ (dst src : Reg) (hform : formOf i = .transferNZ dst src len) :
    exec i s = .next ((s.advance len).setRegNZ dst (s.reg src)) := by
  rw [exec_form, hform, Form.run, State.transferNZ, Ctx.start_eq, Ctx.upd_of, Ctx.done_of, State.advance_reg]

theorem exec_transfer (dst src : Reg) (hform : formOf i = .transfer dst src len) :
    exec i s = .next ((s.advance len).setReg dst (s.reg src)) := by
  rw [exec_form, hform, Form.run, State.transfer, Ctx.start_eq, Ctx.upd_of, Ctx.done_of, State.advance_reg]

section
variable {p : Phys} (hram : s.ramAt (.cpu (s.sph ++ s.spl)) = some p)
include hram

theorem Ctx.start_push8 (v : Byte) :
    (Ctx.start len s).push8 v = Ctx.of ((s.advance len).pushed [(p, v)] 0xFFFF#16) :=
  Ctx.push8_first (s := s.advance len) hram v

theorem exec_push_of_ramAt {r : Reg} (hform : formOf i = .push r len) :
    exec i s = .next ((s.advance len).pushed [(p, s.reg r)] 0xFFFF#16) := by
  rw [exec_form, hform, Form.run, State.push, Ctx.start_push8 hram, Ctx.done_of]

theorem exec_pushFlags_of_ramAt (hform : formOf i = .pushFlags len) :
    exec i s = .next ((s.advance len).pushed [(p, s.fl.pack true)] 0xFFFF#16) := by
  rw [exec_form, hform, Form.run, State.pushFlags, Ctx.start_push8 hram, Ctx.done_of]

end

section
variable {w : Word} {p0 p1 : Phys} (h0 : s.ramAt (.cpu (s.sph ++ s.spl)) = some p0)
  (h1 : s.ramAt (.cpu (s.spPlus 0xFFFF#16)) = some p1)
include h0 h1

theorem Ctx.start_push16 : (Ctx.start len s).push16 w =
    Ctx.of ((s.advance len).pushed [(p0, highByte w), (p1, lowByte w)] 0xFFFE#16) :=
  Ctx.push16_first (s := s.advance len) h0 h1 w

theorem exec_pushWord_of_ramAt (hform : formOf i = .pushWord w len) :
    exec i s = .next ((s.advance len).pushed [(p0, highByte w), (p1, lowByte w)] 0xFFFE#16) := by
  rw [exec_form, hform, Form.run, State.pushWord, Ctx.start_push16 h0 h1, Ctx.done_of]

theorem exec_pushWordAt_of_ramAt {a : Word} (hform : formOf i = .pushWordAt a len)
    (hpeek : s.peek16 (.cpu a) = some w) :
    exec i s = .next ((s.advance len).pushed [(p0, highByte w), (p1, lowByte w)] 0xFFFE#16) := by
  have hread : (Ctx.start len s).read16 (.cpu a) = (w, Ctx.start len s) := Ctx.read16_of_peek16 hpeek
  rw [exec_form, hform, Form.run, State.pushWordAt, hread]
  exact congrArg Ctx.done (Ctx.start_push16 h0 h1)

end

section
variable {v : Byte} (hpeek : s.peek (.cpu (s.spPlus 0x0001#16)) = some v)
include hpeek

theorem Ctx.start_pull8 :
    (Ctx.start len s).pull8 = (v, Ctx.of ((s.advance len).withSp (s.spPlus 0x0001#16))) := by
  rw [Ctx.start_eq, Ctx.pull8_of_peek (c := Ctx.of (s.advance len)) hpeek, State.moveSp_eq]
  rfl

theorem exec_pull_of_peek {r : Reg} (hform : formOf i = .pull r len) :
    exec i s = .next (((s.advance len).withSp (s.spPlus 0x0001#16)).setRegNZ r v) := by
  rw [exec_form, hform, Form.run, State.pull, Ctx.start_pull8 hpeek]
  rfl

theorem exec_pullFlags_of_peek (hform : formOf i = .pullFlags len) :
    exec i s = .next { (s.advance len).withSp (s.spPlus 0x0001#16) with fl := s.fl.pulled v } := by
  rw [exec_form, hform, Form.run, State.pullFlags, Ctx.start_pull8 hpeek]
  rfl

end

end

/-! ### The statements -/

/-- Settles O10: the operand, immediate or plain, goes to the register, and N and Z are those of the byte. -/
theorem loadResult : Obligations.LoadResult := by
  intro i s r src len v hform hvalue
  rw [exec_load_of_value hform hvalue, State.setRegNZ, State.advance_fl, Flags.nz_byte]

/-- Settles O11: a store to RAM is its one byte written. -/
theorem storeResult : Obligations.StoreResult := by
  intro i s r m len pl p hform hplace hram
  exact ⟨exec_store_of_ramAt hform hplace hram, State.writes_storeAll rfl _⟩

/-- Settles O13: P as PHP pushes it is the byte with the bits given, and each of the five pushes one byte. -/
theorem pushResult : Obligations.PushResult := by
  rintro i s p v len hram (⟨r, hform, rfl⟩ | ⟨hform, hbits⟩)
  · exact ⟨exec_push_of_ramAt hram hform, State.writes_pushed rfl _ _⟩
  · rw [Flags.eq_pack_of_bits hbits]
    exact ⟨exec_pushFlags_of_ramAt hram hform, State.writes_pushed rfl _ _⟩

/-- Settles O14: both forms push one word, the second the plain word it has read. -/
theorem pushWordResult : Obligations.PushWordResult := by
  rintro i s w p0 p1 len h0 h1 (hform | ⟨a, hform, hpeek⟩)
  · exact ⟨exec_pushWord_of_ramAt h0 h1 hform, State.writes_pushed rfl _ _⟩
  · exact ⟨exec_pushWordAt_of_ramAt h0 h1 hform hpeek, State.writes_pushed rfl _ _⟩

/-- Settles O15: the plain byte pulled goes to the register, or its bits to the flags but E. -/
theorem pullResult : Obligations.PullResult := by
  intro i s v len hpeek
  exact ⟨fun r hform => exec_pull_of_peek hpeek hform, exec_pullFlags_of_peek hpeek⟩

/-- Settles O12: nine transfers set N and Z, and TAB, TXS and TYS do not. -/
theorem transferResult : Obligations.TransferResult := by
  intro s f
  exact ⟨exec_transferNZ .x .a rfl, exec_transferNZ .y .a rfl, exec_transferNZ .z .a rfl,
    exec_transferNZ .a .x rfl, exec_transferNZ .a .y rfl, exec_transferNZ .a .z rfl,
    exec_transferNZ .x .spl rfl, exec_transferNZ .y .sph rfl, exec_transferNZ .a .b rfl,
    exec_transfer .b .a rfl, exec_transfer .spl .x rfl, exec_transfer .sph .y rfl⟩

end Sys2Proof.Machine

/-! Arithmetic, logic, comparison and bit test of A, and shifts, increments, decrements and bit operations on registers and
on RAM (`47_base_alu.md` R340 to R375, `45_map_prefix_system.md` R262): decimal addition and subtraction as numbers, what
each shared operation does with a plain operand, and that the dummy write of a byte leaves no trace once it is replaced. -/

namespace Sys2Proof.Machine

/-! ### Decimal addition and subtraction, as numbers (R350) -/

theorem toNat_lowNibble (u : Byte) : (u.extractLsb' 0 4).toNat = u.toNat % 16 := by
  rw [BitVec.extractLsb'_toNat, Nat.shiftRight_zero]

theorem isBcd_iff (v : Byte) : isBcd v = true ↔ v.toNat / 16 ≤ 9 ∧ v.toNat % 16 ≤ 9 := by
  rw [isBcd, Bool.and_eq_true, decide_eq_true_iff, decide_eq_true_iff, toNat_highNibble, toNat_lowNibble]

theorem bcdValue_eq (v : Byte) : bcdValue v = 10 * (v.toNat / 16) + v.toNat % 16 := by
  rw [bcdValue, toNat_highNibble, toNat_lowNibble]

theorem toNat_bcdOfNat {r : Nat} (h : r < 100) : (bcdOfNat r).toNat = 16 * (r / 10) + r % 10 := by
  rw [bcdOfNat, toNat_append_eq_add, BitVec.toNat_ofNat, BitVec.toNat_ofNat]
  omega

/-- A decimal result changes A, four flags and the free-value counter, whether the operands are BCD or not. -/
theorem State.decimalResult_frame (rc : Byte × Bool) (valid : Bool) (s : State) :
    s.decimalResult rc valid = { s with
      a := (s.decimalResult rc valid).a, free := (s.decimalResult rc valid).free
      fl := { s.fl with
        n := (s.decimalResult rc valid).fl.n, v := (s.decimalResult rc valid).fl.v
        z := (s.decimalResult rc valid).fl.z, c := (s.decimalResult rc valid).fl.c } } := by
  cases valid <;> rfl

theorem AluOp.run8_decimal {op : AluOp} {s : State} (hop : op = .adc ∨ op = .sbc) (hdec : s.fl.d = true) (m : Byte) :
    op.run8 m s = s.decimalResult (if op = .adc then decimalAdd s.a m s.fl.c else decimalSub s.a m s.fl.c)
      (isBcd s.a && isBcd m) := by
  obtain rfl | rfl := hop
  · exact if_pos hdec
  · exact if_pos hdec

theorem AluOp.run8_adc_binary {s : State} (hbin : s.fl.d = false) (m : Byte) :
    AluOp.run8 .adc m s = s.binaryResult (addWithCarry s.a m s.fl.c) := if_neg (by simp [hbin])

theorem AluOp.run8_sbc_binary {s : State} (hbin : s.fl.d = false) (m : Byte) :
    AluOp.run8 .sbc m s = s.binaryResult (subWithCarry s.a m s.fl.c) := if_neg (by simp [hbin])

/-! ### Plain operands -/

section
variable {i : Instr} {s : State} {src : Source} {len : Nat} {m : Byte} (hvalue : s.value src = some m)
include hvalue

/-- A plain operand gives its value whatever PC is, and nothing changes. -/
theorem Ctx.start_operand_of_value : (Ctx.start len s).operand src = (m, Ctx.of (s.advance len)) :=
  Ctx.operand_of_value (c := Ctx.of (s.advance len)) hvalue

theorem exec_alu_of_value {op : AluOp} (hform : formOf i = .alu op src len) :
    exec i s = .next (op.run8 m (s.advance len)) := by
  rw [exec_form, hform, Form.run, State.alu, Ctx.start_operand_of_value hvalue]
  rfl

theorem exec_compare_of_value {r : Reg} (hform : formOf i = .compare r src len) :
    exec i s = .next { s.advance len with fl := s.fl.compare (s.reg r) m } := by
  rw [exec_form, hform, Form.run, State.compare, Ctx.start_operand_of_value hvalue]
  simp only [Ctx.upd_of, Ctx.done_of, State.advance_reg, State.advance_fl]

end

section
variable {i : Instr} {s : State} {len : Nat}

theorem exec_bit_of_value {mode : MemMode} {m : Byte} (hvalue : s.value (.mem mode) = some m)
    (hform : formOf i = .bit mode len) : exec i s = .next { s.advance len with fl := s.fl.bitTest s.a m } := by
  rw [exec_form, hform, Form.run, State.bit, Ctx.start_operand_of_value hvalue]
  rfl

theorem exec_bitImm {m : Byte} (hform : formOf i = .bitImm m len) :
    exec i s = .next { s.advance len with
      fl := if s.cfg.bitImmSetsNV then s.fl.bitTest s.a m else s.fl.bitTestZ s.a m } := by
  rw [exec_form, hform]
  rfl

theorem exec_negate (hform : formOf i = .negate len) :
    exec i s = .next ((s.advance len).setRegNZ .a (0x00#8 - s.a)) := by
  rw [exec_form, hform]
  rfl

theorem exec_changeReg {ch : Change} {r : Reg} (hform : formOf i = .changeReg ch r len) :
    exec i s = .next
      { (s.advance len).setReg r (ch.apply s.fl (s.reg r)).1 with fl := (ch.apply s.fl (s.reg r)).2 } := by
  rw [exec_form, hform, Form.run, State.changeReg, Ctx.start_eq, Ctx.upd_of, Ctx.done_of, State.advance_reg,
    State.advance_fl]

end

/-- The two top bits of the operand, and whether it has a bit in common with A (R349). -/
theorem Flags.bitTest_byte (fl : Flags) (x m : Byte) :
    fl.bitTest x m = { fl with n := m.getLsbD 7, v := m.getLsbD 6, z := (x &&& m) == 0x00#8 } := rfl

/-! ### A byte or a word of RAM read, changed and written (R358) -/

/-- Whatever byte a dummy write puts at `p`, the bytes stored afterwards, the first of them at `p`, are the only change. -/
theorem State.writes_storeAll_of_read_eq {s t : State} {p : Phys}
    (h : ∀ a, a ≠ p.toNat → Memory.read t.mem a = Memory.read s.mem a) (r : Byte) (ws : List (Phys × Byte)) :
    Writes s (t.storeAll ((p, r) :: ws)) ((p, r) :: ws) := by
  intro a
  rw [State.writes_storeAll rfl ((p, r) :: ws) a, List.foldl_cons, List.foldl_cons]
  by_cases ha : a = p.toNat
  · rw [if_pos ha, if_pos ha]
  · rw [if_neg ha, if_neg ha, h a ha]

/-- On RAM the dummy write replaces its byte, or is not made. -/
theorem Ctx.writeBack_of_ramAt {s : State} {pl : Place} {p : Phys} (hram : s.ramAt pl = some p) (always : Bool)
    (v : Byte) : ∃ mem, (Ctx.of s).writeBack always pl v = Ctx.of { s with mem := mem } ∧
      ∀ a, a ≠ p.toNat → Memory.read mem a = Memory.read s.mem a := by
  unfold Ctx.writeBack
  split
  case isTrue =>
    rw [Ctx.write8_of_ramAt (c := Ctx.of s) hram]
    exact ⟨Memory.write s.mem p.toNat v, rfl, fun a ha => Memory.read_write_ne _ v ha⟩
  case isFalse => exact ⟨s.mem, rfl, fun _ _ => rfl⟩

section
variable {s : State} {m : MemMode} {len : Nat} {pl : Place} (hplace : s.place m = some pl)
include hplace

/-- `r` is what the operation makes of the byte, whatever memory holds. -/
theorem State.rmw8_of_ramAt {v : Byte} {p : Phys} (hpeek : s.peek pl = some v) (hram : s.ramAt pl = some p)
    {f : State → Byte → Byte × Flags} {r : Byte × Flags} (hf : ∀ mem, f { s.advance len with mem := mem } v = r)
    (always : Bool) :
    ∃ t, s.rmw8 always f m len = .next t ∧ t = { s.advance len with fl := r.2, mem := t.mem } ∧
      Writes s t [(p, r.1)] := by
  have hread : (Ctx.of (s.advance len)).read8 pl = (v, Ctx.of (s.advance len)) := Ctx.read8_of_peek hpeek
  obtain ⟨mem, hdummy, hmem⟩ := Ctx.writeBack_of_ramAt (s := s.advance len) hram always v
  let u : State := { s.advance len with fl := r.2, mem := mem }
  have hwrite : (Ctx.of u).write8 pl r.1 = Ctx.of (u.storeAll [(p, r.1)]) := Ctx.write8_of_ramAt (c := Ctx.of u) hram r.1
  refine ⟨u.storeAll [(p, r.1)], ?_, State.storeAll_eq .., State.writes_storeAll_of_read_eq (s := s) hmem r.1 []⟩
  rw [State.rmw8, Ctx.start_ea_of_place hplace]
  simp only [hread, hdummy, Ctx.of_st, hf, Ctx.upd_of]
  exact congrArg Ctx.done hwrite

theorem State.changeWord_of_ramAt {v : Word} {p0 p1 : Phys} (hpeek : s.peek16 pl = some v) (h0 : s.ramAt pl = some p0)
    (h1 : s.ramAt (pl.plus 1) = some p1) (ch : Change) :
    ∃ t, s.changeWord ch m len = .next t ∧ t = { s.advance len with fl := (ch.apply s.fl v).2, mem := t.mem } ∧
      Writes s t [(p0, lowByte (ch.apply s.fl v).1), (p1, highByte (ch.apply s.fl v).1)] := by
  have hread : (Ctx.of (s.advance len)).read16 pl = (v, Ctx.of (s.advance len)) := Ctx.read16_of_peek16 hpeek
  obtain ⟨mem, hdummy, hmem⟩ := Ctx.writeBack_of_ramAt (s := s.advance len) h0 false (v.extractLsb' 0 8)
  let u : State := { s.advance len with fl := (ch.apply s.fl v).2, mem := mem }
  have hwrite := Ctx.write16_of_ramAt (c := Ctx.of u) h0 h1 (ch.apply s.fl v).1
  refine ⟨_, ?_, State.storeAll_eq u _, State.writes_storeAll_of_read_eq (s := s) hmem _ _⟩
  rw [State.changeWord, Ctx.start_ea_of_place hplace]
  simp only [hread, hdummy, Ctx.of_st, Ctx.upd_of]
  exact congrArg Ctx.done hwrite

end

/-! ### The bits of TSB, TRB, RMBn and SMBn (R372 to R375) -/

theorem BitOp.apply_flags_of_test {op : BitOp} (hop : op = .tsb ∨ op = .trb) (a : Byte) (fl : Flags) (v : Byte) :
    (op.apply a fl v).2 = { fl with z := (a &&& v) == 0x00#8 } := by
  obtain rfl | rfl := hop <;> rfl

theorem BitOp.apply_flags_of_not_test {op : BitOp} (htsb : op ≠ .tsb) (htrb : op ≠ .trb) (a : Byte) (fl : Flags)
    (v : Byte) : (op.apply a fl v).2 = fl := by
  cases op with
  | tsb => exact absurd rfl htsb
  | trb => exact absurd rfl htrb
  | rmb n | smb n => rfl

/-- The mask of bit `n`. -/
theorem getLsbD_bitMask (n k : Fin 8) : (0x01#8 <<< n.val).getLsbD k = (k == n) := by
  decide +revert

theorem BitOp.getLsbD_apply (op : BitOp) (a : Byte) (fl : Flags) (v : Byte) (k : Fin 8) :
    (op.apply a fl v).1.getLsbD k =
      match op with
      | .tsb => v.getLsbD k || a.getLsbD k
      | .trb => v.getLsbD k && !a.getLsbD k
      | .rmb n => v.getLsbD k && k != n
      | .smb n => v.getLsbD k || k == n := by
  have hnot (x : Byte) : (~~~x).getLsbD k = !x.getLsbD k := by
    rw [BitVec.getLsbD_not, decide_eq_true k.isLt, Bool.true_and]
  cases op with
  | tsb => exact BitVec.getLsbD_or
  | trb => exact BitVec.getLsbD_and.trans (by rw [hnot])
  | rmb n => exact BitVec.getLsbD_and.trans (by rw [hnot, getLsbD_bitMask]; rfl)
  | smb n => exact BitVec.getLsbD_or.trans (by rw [getLsbD_bitMask])

/-! ### The statements -/

/-- Settles O16: the sum and the difference are those of `addWithCarry_eq` and `subWithCarry_eq` at eight bits. -/
theorem adcSbcBinary : Obligations.AdcSbcBinary := by
  intro i s src len m hbin hvalue
  constructor
  · intro hform
    rw [exec_alu_of_value hvalue hform, AluOp.run8_adc_binary (s := s.advance len) hbin, addWithCarry_eq]
    rfl
  · intro hform
    rw [exec_alu_of_value hvalue hform, AluOp.run8_sbc_binary (s := s.advance len) hbin, subWithCarry_eq]
    rfl

/-- Settles O17: the frame holds of every decimal result; for BCD operands the result's digits are those of the sum or
difference modulo 100. -/
theorem decimalAddSub : Obligations.DecimalAddSub := by
  intro i s op src len m hop hform hdec hvalue
  have hrun := AluOp.run8_decimal (s := s.advance len) hop hdec m
  refine ⟨_, (exec_alu_of_value hvalue hform).trans (congrArg _ hrun), State.decimalResult_frame .., ?_⟩
  intro ha ha' hm hm' x y sum diff r
  have hbcd : (isBcd (s.advance len).a && isBcd m) = true :=
    Bool.and_eq_true_iff.mpr ⟨(isBcd_iff s.a).mpr ⟨ha, ha'⟩, (isBcd_iff m).mpr ⟨hm, hm'⟩⟩
  have hrc : (if op = .adc then decimalAdd s.a m s.fl.c else decimalSub s.a m s.fl.c) =
      (bcdOfNat r, decide (if op = .adc then 99 < sum else 0 ≤ diff)) := by
    obtain rfl | rfl := hop
    · simp only [decimalAdd, bcdValue_eq, if_true, r, sum, x, y]
    · simp only [decimalSub, bcdValue_eq, reduceCtorEq, if_false, r, diff, x, y]
  have hr : r < 100 := by
    simp only [r]
    split <;> omega
  rw [hbcd, State.advance_a, State.advance_fl, hrc]
  exact ⟨toNat_bcdOfNat hr, rfl, rfl, rfl⟩

/-- Settles O18. -/
theorem logicResult : Obligations.LogicResult := by
  intro i s src len m out
  exact ⟨fun hvalue => ⟨exec_alu_of_value hvalue, exec_alu_of_value hvalue, exec_alu_of_value hvalue⟩, exec_negate⟩

/-- Settles O19. -/
theorem compareResult : Obligations.CompareResult := by
  intro i s r src len m hform hvalue
  rw [exec_compare_of_value hvalue hform, Flags.compare_eq]
  rfl

/-- Settles O20. -/
theorem bitResult : Obligations.BitResult := by
  intro i s len m fl
  exact ⟨fun mode hform hvalue => exec_bit_of_value hvalue hform, exec_bitImm⟩

/-- Settles O30. -/
theorem changeRegResult : Obligations.ChangeRegResult := fun _ _ _ _ _ hform => exec_changeReg hform

/-- Settles O31: the operation looks at the flags only, which the dummy write keeps. -/
theorem changeMemResult : Obligations.ChangeMemResult := by
  intro i s ch m len pl v p hform hplace hpeek hram
  rw [exec_form, hform, Form.run, State.changeMem]
  exact State.rmw8_of_ramAt hplace hpeek hram (f := fun s v => ch.apply s.fl v) (fun _ => rfl) ch.always

/-- Settles O32: the operation looks at A and the flags only; its flags and its bits are told by case of the operation. -/
theorem bitMemResult : Obligations.BitMemResult := by
  intro i s op m len pl v p hform hplace hpeek hram
  obtain ⟨t, hnext, ht, hwrites⟩ := State.rmw8_of_ramAt (len := len) hplace hpeek hram
    (f := fun s v => op.apply s.a s.fl v) (r := op.apply s.a s.fl v) (fun _ => rfl) false
  rw [exec_form, hform, Form.run, State.bitMem]
  refine ⟨t, _, hnext, hwrites, fun hop => ?test, fun htsb htrb => ?keep, op.getLsbD_apply s.a s.fl v⟩
  case test => rwa [BitOp.apply_flags_of_test hop] at ht
  case keep => rwa [BitOp.apply_flags_of_not_test htsb htrb] at ht

/-- Settles O33. -/
theorem changeWordResult : Obligations.ChangeWordResult := by
  intro i s ch m len pl v p0 p1 hform hplace hpeek h0 h1
  rw [exec_form, hform]
  exact State.changeWord_of_ramAt hplace hpeek h0 h1 ch

end Sys2Proof.Machine

/-! Branches, jumps, calls, returns and the flag instructions (`48_base_control.md` R400 to R438): bytes pulled one after
another, and the whole next state of each shared operation. -/

namespace Sys2Proof.Machine

/-! ### Targets (R173, R420 to R425) -/

/-- A jump that may be taken changes PC only. -/
theorem State.ite_goto (s : State) (P : Prop) [Decidable P] (a : Word) :
    (if P then s.goto a else s) = s.goto (if P then a else s.pc) := by
  split <;> rfl

theorem State.wordTarget_eq (s : State) (d : Word) :
    s.wordTarget d = s.pc + (if s.cfg.relWordBase = .two then 2#16 else 3#16) + d := by
  unfold State.wordTarget
  cases s.cfg.relWordBase <;> rfl

theorem State.peek16_of_peek {s : State} {pl : Place} {w : Word} (hlo : s.peek pl = some (lowByte w))
    (hhi : s.peek (pl.plus 1) = some (highByte w)) : s.peek16 pl = some w := by
  simp only [State.peek16, hlo, hhi, highByte_append_lowByte]

/-! ### Bytes pulled (R300) -/

theorem Ctx.pull8_of_plain {s : State} {v : Byte} (h : s.peek (.cpu (s.spPlus 1#16)) = some v) :
    (Ctx.of s).pull8 = (v, Ctx.of (s.withSp (s.spPlus 1#16))) := by
  rw [Ctx.pull8_of_peek (c := Ctx.of s) h, State.moveSp_eq]
  rfl

/-- A word is two bytes pulled, the low one first. -/
theorem Ctx.pull16_of_plain {s : State} {lo hi : Byte} (hlo : s.peek (.cpu (s.spPlus 1#16)) = some lo)
    (hhi : s.peek (.cpu (s.spPlus 2#16)) = some hi) :
    (Ctx.of s).pull16 = (hi ++ lo, Ctx.of (s.withSp (s.spPlus 2#16))) := by
  have hsp : (s.withSp (s.spPlus 1#16)).spPlus 1#16 = s.spPlus 2#16 := State.spPlus_withSp ..
  have hsecond : (s.withSp (s.spPlus 1#16)).peek (.cpu ((s.withSp (s.spPlus 1#16)).spPlus 1#16)) = some hi := by
    rw [hsp]
    exact hhi
  rw [Ctx.pull16, Ctx.pull8_of_plain hlo]
  simp only [Ctx.pull8_of_plain hsecond, hsp]
  rfl

/-! ### The next state of each shared operation -/

section
variable {i : Instr} {s : State} {len : Nat}

theorem exec_branch {k : Cond} {d : Byte} (hform : formOf i = .branch k d len) :
    exec i s = .next ((s.advance len).goto
      (if k.holds s.fl then (s.advance len).pc + d.signExtend 16 else (s.advance len).pc)) := by
  rw [exec_form, hform, Form.run, State.branch, Ctx.start_eq, Ctx.upd_of, Ctx.done_of, State.ite_goto]
  rfl

theorem exec_branchWord {k : Cond} {d : Word} (hform : formOf i = .branchWord k d len) :
    exec i s = .next ((s.advance len).goto (if k.holds s.fl then s.wordTarget d else (s.advance len).pc)) := by
  rw [exec_form, hform, Form.run, State.branchWord, Ctx.start_eq, Ctx.upd_of, Ctx.done_of, State.ite_goto]
  rfl

theorem exec_branchBit_of_peek {on : Bool} {n : Fin 8} {nn d v : Byte} (hform : formOf i = .branchBit on n nn d len)
    (hpeek : s.peek (.cpu (s.bpAddr nn)) = some v) :
    exec i s = .next ((s.advance len).goto
      (if v.getLsbD n = on then (s.advance len).pc + d.signExtend 16 else (s.advance len).pc)) := by
  have hvalue : s.value (.mem (.bp nn)) = some v := hpeek
  rw [exec_form, hform, Form.run, State.branchBit, Ctx.start_operand_of_value hvalue]
  simp only [Ctx.upd_of, Ctx.done_of, State.ite_goto, beq_iff_eq]
  rfl

theorem exec_jump_of_destination {t : JumpTarget} {dest : Word} (hform : formOf i = .jump t len)
    (hdest : s.destination t = some dest) : exec i s = .next ((s.advance len).goto dest) := by
  have htarget : (Ctx.start len s).jumpTarget t = (dest, Ctx.start len s) := Ctx.jumpTarget_of_destination hdest
  rw [exec_form, hform, Form.run, State.jump, htarget]
  rfl

theorem exec_flag (op : FlagOp) (hform : formOf i = .flag op len) :
    exec i s = .next { s.advance len with fl := op.apply s.fl } := by
  rw [exec_form, hform, Form.run, State.flag, Ctx.start_eq, Ctx.upd_of, Ctx.done_of, State.advance_fl]

section
variable {p0 p1 : Phys} {u : State} (h0 : s.ramAt (.cpu (s.sph ++ s.spl)) = some p0)
  (h1 : s.ramAt (.cpu (s.spPlus 0xFFFF#16)) = some p1)
  (hu : u = (s.advance len).pushed [(p0, highByte (s.pc + 2#16)), (p1, lowByte (s.pc + 2#16))] 0xFFFE#16)
include h0 h1 hu

/-- The target is read after the push, which may have replaced its bytes. -/
theorem exec_call_of_destination {t : JumpTarget} {dest : Word} (hform : formOf i = .call t len)
    (hdest : u.destination t = some dest) : exec i s = .next (u.goto dest) := by
  have htarget : (Ctx.of u).jumpTarget t = (dest, Ctx.of u) := Ctx.jumpTarget_of_destination hdest
  rw [exec_form, hform, Form.run, State.call, Ctx.start_push16 h0 h1, ← hu, htarget]
  rfl

theorem exec_branchSub {d : Word} (hform : formOf i = .branchSub d len) :
    exec i s = .next (u.goto (s.wordTarget d)) := by
  rw [exec_form, hform, Form.run, State.branchSub, Ctx.start_push16 h0 h1, ← hu, Ctx.upd_of, Ctx.done_of]

end

section
variable {b1 b2 : Byte} (h1 : s.peek (.cpu (s.spPlus 1#16)) = some b1) (h2 : s.peek (.cpu (s.spPlus 2#16)) = some b2)
include h1 h2

theorem exec_ret_of_peek {n : Byte} (hform : formOf i = .ret n len) :
    exec i s = .next ((s.withSp (s.spPlus (2#16 + n.setWidth 16))).goto ((b2 ++ b1) + 1#16)) := by
  have hpull : (Ctx.start len s).pull16 = (b2 ++ b1, Ctx.of ((s.advance len).withSp (s.spPlus 2#16))) :=
    Ctx.pull16_of_plain (s := s.advance len) h1 h2
  have hsp : (((s.advance len).withSp (s.spPlus 2#16)).goto ((b2 ++ b1) + 1#16)).spPlus (n.setWidth 16) =
      s.spPlus (2#16 + n.setWidth 16) := State.spPlus_withSp s 2#16 (n.setWidth 16)
  rw [exec_form, hform, Form.run, State.ret, hpull]
  simp only [Ctx.upd_of, Ctx.done_of, State.moveSp_eq, hsp]
  rfl

/-- P comes off the stack first; its E is not taken, so SP still moves as it did (R28, R428). -/
theorem exec_retInterrupt_of_peek {b3 : Byte} (hform : formOf i = .retInterrupt len)
    (h3 : s.peek (.cpu (s.spPlus 3#16)) = some b3) :
    exec i s = .next { s.withSp (s.spPlus 3#16) with pc := b3 ++ b2, fl := s.fl.pulled b1 } := by
  let u : State := { (s.advance len).withSp (s.spPlus 1#16) with fl := s.fl.pulled b1 }
  have hsp (d : Word) : u.spPlus d = s.spPlus (1#16 + d) := State.spPlus_withSp s 1#16 d
  have hpeek (pl : Place) : u.peek pl = s.peek pl := rfl
  have hlo : u.peek (.cpu (u.spPlus 1#16)) = some b2 := by rw [hpeek, hsp]; exact h2
  have hhi : u.peek (.cpu (u.spPlus 2#16)) = some b3 := by rw [hpeek, hsp]; exact h3
  have hpull : (Ctx.of u).pull16 = (b3 ++ b2, Ctx.of (u.withSp (s.spPlus 3#16))) := by
    rw [Ctx.pull16_of_plain hlo hhi, hsp]
    rfl
  rw [exec_form, hform, Form.run, State.retInterrupt, Ctx.start_pull8 h1]
  exact congrArg (fun r : Word × Ctx => (r.2.upd fun t => t.goto r.1).done) hpull

end

end

/-! ### The statements -/

/-- Settles O36: the table of conditions pairs each with whether it holds. -/
theorem branchResult : Obligations.BranchResult := by
  intro i s len x hx next base
  have hmem : x ∈ [Cond.pl, .mi, .vc, .vs, .cc, .cs, .ne, .eq, .always].map fun k => (k, k.holds s.fl) := hx
  obtain ⟨k, -, rfl⟩ := List.mem_map.mp hmem
  refine ⟨fun d hform => exec_branch hform, fun d hform => ?word⟩
  case word =>
    rw [exec_branchWord hform, State.wordTarget_eq]
    rfl

/-- Settles O37. -/
theorem branchBitResult : Obligations.BranchBitResult :=
  fun _ _ _ _ _ _ _ _ hform hpeek => exec_branchBit_of_peek hform hpeek

/-- Settles O39: each form's hypothesis says that its destination is plain, the two indirect ones byte by byte. -/
theorem jumpResult : Obligations.JumpResult := by
  intro i s t len dest hform ht
  refine exec_jump_of_destination hform ?_
  cases t with
  | abs a => exact congrArg some ht.symm
  | ind a | indX a =>
    obtain ⟨hlo, hhi⟩ := ht
    exact State.peek16_of_peek hlo hhi

/-- Settles O40: both calls push one word, then go. -/
theorem callResult : Obligations.CallResult := by
  intro i s len p0 p1 h0 h1 ws u base
  refine ⟨State.writes_pushed rfl ws 0xFFFE#16, fun t dest hform hdest => ?call, fun d hform => ?branchSub⟩
  case call => exact exec_call_of_destination h0 h1 rfl hform hdest
  case branchSub =>
    rw [exec_branchSub h0 h1 rfl hform, State.wordTarget_eq]
    rfl

/-- Settles O41. -/
theorem returnResult : Obligations.ReturnResult := by
  intro i s len b1 b2 b3 h1 h2
  exact ⟨fun n hform => exec_ret_of_peek h1 h2 hform, exec_retInterrupt_of_peek h1 h2⟩

/-- Settles O38: the absolute form's destination is its operand in every state. -/
theorem jumpAbsolute : Obligations.JumpAbsolute := fun _ _ => ⟨rfl, exec_jump_of_destination rfl rfl⟩

/-- Settles O43. -/
theorem flagResult : Obligations.FlagResult := fun _ =>
  ⟨exec_flag .clc rfl, exec_flag .sec rfl, exec_flag .cli rfl, exec_flag .sei rfl, exec_flag .cld rfl,
    exec_flag .sed rfl, exec_flag .clv rfl, exec_flag .cle rfl, exec_flag .see rfl⟩

end Sys2Proof.Machine

/-! Which event a boundary takes (`60_exceptions.md` R452 to R459, R478), and hypervisor mode along a step (R460, R471,
R477, R480, R481): only a trap's entry enters it, and only a write of `$D67F` in it leaves it. -/

namespace Sys2Proof.Machine

/-! ### The event of a boundary, by priority (R459) -/

section
variable {s : State}

theorem State.eventNow_of_atEntry (h : s.atEntry = true) : s.eventNow = none := if_pos h

theorem State.eventNow_of_not_atEntry (h : s.atEntry = false) : s.eventNow = s.event := if_neg (by simp [h])

theorem State.event_of_resetLine (h : s.resetLine = true) : s.event = some .reset := if_pos h

theorem State.event_of_hyper (hreset : s.resetLine = false) (h : s.hyper = true) : s.event = none := by
  simp only [State.event, hreset, h, Bool.false_eq_true, if_false, if_true]

section
variable (hreset : s.resetLine = false) (hhyper : s.hyper = false)
include hreset hhyper

theorem State.event_of_syscall {n : BitVec 6} (h : s.syscall = some n) : s.event = some (.syscall n) := by
  simp only [State.event, hreset, hhyper, Bool.false_eq_true, if_false, h]

theorem State.event_of_trapRequest {n : BitVec 7} (hsyscall : s.syscall = none) (h : s.trapRequest = some n) :
    s.event = some (.trap n) := by
  simp only [State.event, hreset, hhyper, Bool.false_eq_true, if_false, hsyscall, h]

theorem State.event_of_no_trap (hsyscall : s.syscall = none) (h : s.trapRequest = none) :
    s.event = s.interruptEvent := by
  simp only [State.event, hreset, hhyper, Bool.false_eq_true, if_false, hsyscall, h]

end

/-- NMI is before IRQ, both wait from MAP to EOM, and IRQ waits while I is set (R454, R456, R459). -/
theorem State.interruptEvent_eq_some_iff {e : Event} : s.interruptEvent = some e ↔
    s.mapInhibit = false ∧ (e = .nmi ∧ s.nmiPending = true ∨
      e = .irq ∧ s.nmiPending = false ∧ s.irqLine = true ∧ s.fl.i = false) := by
  unfold State.interruptEvent
  cases s.mapInhibit with
  | true => simp
  | false =>
    cases s.nmiPending with
    | true => simp [eq_comm (a := e)]
    | false => simp [eq_comm (a := e), and_comm]

end

theorem step_of_event {s : State} {e : Event} (h : s.accept.eventNow = some e) :
    step s = .next (s.accept.take e) := by
  simp only [step, h]

/-- Settles O7: down the ladder of priorities, each rung is one equation of `State.event`. -/
theorem eventTaken : Obligations.EventTaken := by
  refine ⟨fun _ _ => step_of_event, fun _ => State.eventNow_of_atEntry, fun s hentry => ?_⟩
  rw [State.eventNow_of_not_atEntry hentry]
  cases hreset : s.resetLine with
  | true => simp [State.event_of_resetLine hreset]
  | false =>
    cases hhyper : s.hyper with
    | true => simp [State.event_of_hyper hreset hhyper]
    | false =>
      cases hsyscall : s.syscall with
      | some n => simp [State.event_of_syscall hreset hhyper hsyscall]
      | none =>
        cases htrap : s.trapRequest with
        | some n => simp [State.event_of_trapRequest hreset hhyper hsyscall htrap]
        | none => simp [State.event_of_no_trap hreset hhyper hsyscall htrap, State.interruptEvent_eq_some_iff]

/-! ### The mode at the end of an instruction (R477, R480) -/

@[simp] theorem Ctx.finish_hyper (c : Ctx) : c.finish.hyper = (!c.leave && c.st.hyper) := by
  unfold Ctx.finish
  cases c.leave <;> rfl

/-- An instruction ends in hypervisor mode if it began in it and wrote `$D67F` nowhere. -/
theorem exec_hyper_iff {i : Instr} {s t : State} (h : exec i s = .next t) :
    t.hyper = true ↔ s.hyper = true ∧ ¬∃ x ∈ (formOf i).sites s, x.exits := by
  obtain ⟨c, ⟨hleave, -, hhyper, -⟩, rfl⟩ := exec_tracks i s t h
  have hleave' : c.leave = true ↔ ∃ x ∈ (formOf i).sites s, x.exits := by simpa using hleave
  rw [Ctx.finish_hyper, hhyper, ← hleave', Bool.and_eq_true, Bool.not_eq_true', Bool.not_eq_true, and_comm]
  rfl

theorem exec_hyper_of_normal {i : Instr} {s t : State} (hnormal : s.hyper = false) (h : exec i s = .next t) :
    t.hyper = false := by
  refine Bool.eq_false_iff.mpr fun ht => ?_
  obtain ⟨hs, -⟩ := (exec_hyper_iff h).mp ht
  cases hs.symm.trans hnormal

/-- What leaves hypervisor mode is a write. -/
theorem exec_hyper_of_reads {i : Instr} {s t : State} (hreads : ∀ x ∈ (formOf i).sites s, x.acc = .read)
    (h : exec i s = .next t) : t.hyper = s.hyper := by
  have hstays : ¬∃ x ∈ (formOf i).sites s, x.exits := by
    rintro ⟨x, hx, hwrite, -⟩
    cases (hreads x hx).symm.trans hwrite
  rw [Bool.eq_iff_iff, exec_hyper_iff h, and_iff_left hstays]

theorem Site.phys_eq_some_iff {x : Site} {p : Phys} :
    x.phys = some p ↔ x.ctx.st.target x.acc x.place = .phys p := by
  unfold Site.phys
  cases x.ctx.st.target x.acc x.place <;> simp

/-! ### Operations that only read -/

theorem Ctx.acc_of_mem_reads16 {pl : Place} {c : Ctx} {x : Site} (h : x ∈ c.reads16 pl) : x.acc = .read := by
  simp only [Ctx.reads16, List.mem_cons, List.not_mem_nil, or_false] at h
  obtain rfl | rfl := h <;> rfl

theorem Ctx.acc_of_mem_reads32 {pl : Place} {c : Ctx} {x : Site} (h : x ∈ c.reads32 pl) : x.acc = .read := by
  simp only [Ctx.reads32, List.mem_cons, List.not_mem_nil, or_false] at h
  obtain rfl | rfl | rfl | rfl := h <;> rfl

theorem Ctx.acc_of_mem_pulls8 {c : Ctx} {x : Site} (h : x ∈ c.pulls8) : x.acc = .read := by
  obtain rfl := List.mem_singleton.mp h
  rfl

theorem Ctx.acc_of_mem_pulls16 {c : Ctx} {x : Site} (h : x ∈ c.pulls16) : x.acc = .read :=
  (List.mem_append.mp h).elim Ctx.acc_of_mem_pulls8 Ctx.acc_of_mem_pulls8

theorem Ctx.acc_of_mem_pointers16 {nn : Byte} {c : Ctx} {x : Site} (h : x ∈ c.pointers16 nn) : x.acc = .read := by
  simp only [Ctx.pointers16, List.mem_cons, List.not_mem_nil, or_false] at h
  obtain rfl | rfl := h <;> rfl

theorem Ctx.acc_of_mem_pointers32 {nn : Byte} {c : Ctx} {x : Site} (h : x ∈ c.pointers32 nn) : x.acc = .read := by
  simp only [Ctx.pointers32, List.mem_cons, List.not_mem_nil, or_false] at h
  obtain rfl | rfl | rfl | rfl := h <;> rfl

theorem Ctx.acc_of_mem_eaSites {m : MemMode} {c : Ctx} {x : Site} (h : x ∈ c.eaSites m) : x.acc = .read := by
  cases m
  case bpXInd | bpIndY | bpIndZ | bpInd => exact Ctx.acc_of_mem_pointers16 h
  case farZ | far => exact Ctx.acc_of_mem_pointers32 h
  case spIndY => exact Ctx.acc_of_mem_reads16 h
  all_goals cases h

theorem Ctx.acc_of_mem_operandSites {src : Source} {c : Ctx} {x : Site} (h : x ∈ c.operandSites src) :
    x.acc = .read := by
  cases src with
  | imm => cases h
  | mem m =>
    obtain h | h := List.mem_append.mp h
    · exact Ctx.acc_of_mem_eaSites h
    · obtain rfl := List.mem_singleton.mp h
      rfl

theorem Ctx.acc_of_mem_quadSites {m : MemMode} {c : Ctx} {x : Site} (h : x ∈ c.quadSites m) : x.acc = .read :=
  (List.mem_append.mp h).elim Ctx.acc_of_mem_eaSites Ctx.acc_of_mem_reads32

theorem Ctx.acc_of_mem_jumpSites {t : JumpTarget} {c : Ctx} {x : Site} (h : x ∈ c.jumpSites t) : x.acc = .read := by
  cases t
  case abs => cases h
  all_goals exact Ctx.acc_of_mem_reads16 h

/-! ### The mode along a step -/

theorem State.accept_hyper (s : State) : s.accept.hyper = s.hyper := s.accept_stored.hyper

theorem State.instruction_exec {s t : State} (h : s.instruction = .next t) :
    ∃ i u, u.hyper = s.hyper ∧ s.instruction = exec i u := by
  unfold State.instruction at h ⊢
  split at h
  · cases h
  · rename_i i _ _
    split at h
    · rename_i _ u hget
      exact ⟨i, u, (fetchBytes_frame (List.mem_of_getElem? hget)).stored.hyper, rfl⟩
    · exact ⟨i, s, rfl, rfl⟩

/-- A step that takes no event runs one instruction, in the mode before the step: the platform's input and the fetch do
not change it. -/
theorem step_exec_of_no_event {s t : State} (hevent : s.accept.eventNow = none) (h : step s = .next t) :
    ∃ i u, u.hyper = s.hyper ∧ step s = exec i u := by
  rw [step_of_no_event hevent] at h ⊢
  unfold State.run at h ⊢
  split at h
  · cases h
  · rename_i hruns
    rw [if_neg hruns]
    obtain ⟨i, u, hu, hexec⟩ := State.instruction_exec h
    exact ⟨i, u, hu.trans s.accept_hyper, hexec⟩

theorem State.trapEnter_hyper (n : BitVec 7) (s : State) : (s.trapEnter n).hyper = true := rfl

theorem trapVector_toNat (n : BitVec 7) : (trapVector n).toNat = 0x8000 + 4 * n.toNat := by
  have hn := n.isLt
  rw [trapVector, BitVec.toNat_add, BitVec.toNat_shiftLeft, BitVec.toNat_setWidth, BitVec.toNat_ofNat,
    Nat.shiftLeft_eq]
  omega

theorem State.trapEnter_pc_toNat (n : BitVec 7) (s : State) : (s.trapEnter n).pc.toNat = 0x8000 + 4 * n.toNat :=
  trapVector_toNat n

/-- Interrupt entry does not set `Hyper` (R455). -/
theorem Ctx.interrupt_finish_hyper {c : Ctx} (hnormal : c.st.hyper = false) (vector ret : Word) (brk : Bool) :
    (c.interrupt vector ret brk).finish.hyper = false := by
  rw [Ctx.finish_hyper, (closed_stored.interrupt vector ret brk c).hyper, hnormal, Bool.and_false]

/-- In hypervisor mode only a reset is taken (R453, R478). -/
theorem State.eventNow_of_hyper {s : State} {e : Event} (hhyper : s.hyper = true) (h : s.eventNow = some e) :
    e = .reset := by
  cases hentry : s.atEntry with
  | true => rw [State.eventNow_of_atEntry hentry] at h; cases h
  | false =>
    rw [State.eventNow_of_not_atEntry hentry] at h
    cases hreset : s.resetLine with
    | true => rw [State.event_of_resetLine hreset] at h; cases h; rfl
    | false => rw [State.event_of_hyper hreset hhyper] at h; cases h

/-- Settles O58: an instruction and an interrupt's entry stay in normal mode, and the three other events are a trap's
entry. -/
theorem enteringHypervisor : Obligations.EnteringHypervisor := by
  intro s t hnormal hstep hentered
  have haccept : s.accept.hyper = false := s.accept_hyper.trans hnormal
  cases hevent : s.accept.eventNow with
  | none =>
    obtain ⟨i, u, hu, hexec⟩ := step_exec_of_no_event hevent hstep
    have hstays := exec_hyper_of_normal (hu.trans hnormal) (hexec ▸ hstep)
    cases hentered.symm.trans hstays
  | some e =>
    have ht : s.accept.take e = t := Host.Outcome.next.inj ((step_of_event hevent).symm.trans hstep)
    subst ht
    cases e with
    | reset => exact ⟨.reset, trapReset, rfl, nofun, nofun, State.trapEnter_pc_toNat ..⟩
    | syscall n => exact ⟨.syscall n, n.setWidth 7, rfl, nofun, nofun, State.trapEnter_pc_toNat ..⟩
    | trap n => exact ⟨.trap n, n, rfl, nofun, nofun, State.trapEnter_pc_toNat ..⟩
    | nmi | irq => cases hentered.symm.trans (Ctx.interrupt_finish_hyper haccept ..)

/-- Settles O59: a reset's entry stays in hypervisor mode, and an instruction's mode is decided by its accesses. -/
theorem leavingHypervisor : Obligations.LeavingHypervisor := by
  refine ⟨fun s t hhyper hstep hleft => ?step, fun x => ?exits, fun i s t hexec => ⟨?enter, ?leave, ?reads, ?forms⟩⟩
  case step =>
    have haccept : s.accept.hyper = true := s.accept_hyper.trans hhyper
    cases hevent : s.accept.eventNow with
    | some e =>
      obtain rfl := State.eventNow_of_hyper haccept hevent
      cases (step_of_event hevent).symm.trans hstep
      cases hleft
    | none =>
      obtain ⟨i, u, hu, hexec⟩ := step_exec_of_no_event hevent hstep
      have huhyper : u.hyper = true := hu.trans hhyper
      refine ⟨rfl, i, u, huhyper, hexec, not_not.mp fun hstays => ?_⟩
      cases hleft.symm.trans ((exec_hyper_iff (hexec ▸ hstep)).mpr ⟨huhyper, hstays⟩)
  case exits =>
    simp only [Site.exits, Site.atMega65, Site.phys_eq_some_iff]
    exact and_congr_right fun hwrite => by rw [hwrite]
  case enter => exact fun hnormal => exec_hyper_of_normal hnormal hexec
  case leave =>
    intro hhyper
    rw [← Bool.not_eq_true, exec_hyper_iff hexec, and_iff_right hhyper, not_not]
  case reads => exact fun hreads => exec_hyper_of_reads hreads hexec
  case forms =>
    intro len hform
    refine exec_hyper_of_reads (fun x hx => ?_) hexec
    obtain hform | ⟨_, hform⟩ | ⟨_, _, hform⟩ | ⟨_, hform⟩ | ⟨_, hform⟩ | hform | ⟨_, hform⟩ | ⟨_, _, hform⟩ |
      ⟨_, _, hform⟩ | ⟨_, _, hform⟩ | ⟨_, hform⟩ | hform | hform := hform <;> rw [hform] at hx
    · exact (List.mem_append.mp hx).elim Ctx.acc_of_mem_pulls8 Ctx.acc_of_mem_pulls16
    · exact Ctx.acc_of_mem_pulls16 hx
    · exact Ctx.acc_of_mem_operandSites hx
    · exact Ctx.acc_of_mem_quadSites hx
    · exact Ctx.acc_of_mem_pulls8 hx
    · exact Ctx.acc_of_mem_pulls8 hx
    · exact Ctx.acc_of_mem_jumpSites hx
    all_goals cases hx

end Sys2Proof.Machine

/-! Shifts, rotates, increments and decrements as arithmetic at every width (`43_q_shift_incdec.md` R220 to R226,
`47_base_alu.md` R351 to R371): each result as a number, and N as the top bit. -/

namespace Sys2Proof.Machine

section
variable {w : Nat}

theorem shiftLeft_one_eq (v : BitVec w) : v <<< 1 = BitVec.ofNat w (2 * v.toNat) := by
  apply BitVec.eq_of_toNat_eq
  rw [BitVec.toNat_shiftLeft, BitVec.toNat_ofNat, Nat.shiftLeft_eq, pow_one, mul_comm]

theorem ushiftRight_one_eq (v : BitVec w) : v >>> 1 = BitVec.ofNat w (v.toNat / 2) := by
  apply BitVec.eq_of_toNat_eq
  have hv := v.isLt
  rw [BitVec.toNat_ushiftRight, BitVec.toNat_ofNat, Nat.shiftRight_eq_div_pow, pow_one, Nat.mod_eq_of_lt (by omega)]

theorem sshiftRight_one_eq (v : BitVec w) : v.sshiftRight 1 = BitVec.ofInt w (v.toInt / 2) := by
  rw [BitVec.sshiftRight, Int.shiftRight_eq_div_pow]
  rfl

/-- The old carry comes in at bit 0, which the shift has cleared. -/
theorem rotateLeft_eq (v : BitVec (w + 1)) (c : Bool) :
    (v <<< 1) ||| (BitVec.ofBool c).setWidth (w + 1) = BitVec.ofNat (w + 1) (2 * v.toNat + c.toNat) := by
  have hdisjoint : (v <<< 1) &&& (BitVec.ofBool c).setWidth (w + 1) = 0#(w + 1) := by
    ext k hk
    cases k <;> simp
  rw [← BitVec.add_eq_or_of_and_eq_zero _ _ hdisjoint, shiftLeft_one_eq]
  apply BitVec.eq_of_toNat_eq
  simp

/-- The old carry comes in at the top bit, which the shift has cleared. -/
theorem rotateRight_eq (v : BitVec (w + 1)) (c : Bool) :
    (v >>> 1) ||| ((BitVec.ofBool c).setWidth (w + 1) <<< w) =
      BitVec.ofNat (w + 1) (v.toNat / 2 + 2 ^ w * c.toNat) := by
  have hdisjoint : (v >>> 1) &&& ((BitVec.ofBool c).setWidth (w + 1) <<< w) = 0#(w + 1) := by
    ext k hk
    have habove (h : w ≤ k) : v.getLsbD (1 + k) = false := BitVec.getLsbD_of_ge _ _ (by omega)
    simp only [BitVec.getElem_and, BitVec.getElem_ushiftRight, BitVec.getElem_shiftLeft, BitVec.getElem_zero]
    by_cases h : k < w
    · simp [h]
    · simp [habove (Nat.not_lt.mp h)]
  rw [← BitVec.add_eq_or_of_and_eq_zero _ _ hdisjoint, ushiftRight_one_eq]
  apply BitVec.eq_of_toNat_eq
  simp [Nat.shiftLeft_eq, Nat.mul_comm]

theorem add_one_eq (v : BitVec w) : v + 1#w = BitVec.ofNat w (v.toNat + 1) := by
  rw [BitVec.ofNat_add, BitVec.ofNat_toNat, BitVec.setWidth_eq]

theorem sub_one_eq (v : BitVec w) : v - 1#w = BitVec.ofInt w ((v.toNat : Int) - 1) := by
  rw [Int.sub_eq_add_neg, BitVec.ofInt_add, BitVec.ofInt_natCast, BitVec.ofNat_toNat, BitVec.setWidth_eq,
    BitVec.sub_eq_add_neg, BitVec.ofInt_neg]
  rfl

theorem msb_eq_getLsbD (v : BitVec (w + 1)) : v.msb = v.getLsbD w := by
  rw [BitVec.msb_eq_getLsbD_last, Nat.add_sub_cancel]

/-- The flags that every change leaves: N is the top bit. -/
theorem Flags.nzc_eq (fl : Flags) (r : BitVec (w + 1)) (c : Bool) :
    fl.nzc r c = { fl with n := r.getLsbD w, z := r == 0#(w + 1), c := c } := by
  rw [← msb_eq_getLsbD]
  rfl

theorem Change.apply_shift_of_bits {op : ShiftOp} {fl : Flags} {v r : BitVec w} {c : Bool}
    (h : shiftBits op fl.c v = (r, c)) : Change.apply (.shift op) fl v = (r, fl.nzc r c) := by
  rw [Change.apply, shiftResult, h]

/-- An increment or a decrement keeps C. -/
theorem Change.apply_step_of_eq {up : Bool} {v r : BitVec w} (h : (if up then v + 1#w else v - 1#w) = r)
    (fl : Flags) : Change.apply (.step up) fl v = (r, fl.nzc r fl.c) := by
  rw [Change.apply, stepResult, h]
  rfl

end

/-- Settles O29: each result is its number, with the bit shifted out, and the flags are those of the result. -/
theorem changeFormulas : Obligations.ChangeFormulas := by
  intro w fl v out
  have hout (r : BitVec (w + 1)) (c : Bool) : (r, fl.nzc r c) = out r c := by rw [Flags.nzc_eq]
  have hshift {op : ShiftOp} {r : BitVec (w + 1)} {c : Bool} (h : shiftBits op fl.c v = (r, c)) :
      Change.apply (.shift op) fl v = out r c := (Change.apply_shift_of_bits h).trans (hout r c)
  have hstep {up : Bool} {r : BitVec (w + 1)} (h : (if up then v + 1#(w + 1) else v - 1#(w + 1)) = r) :
      Change.apply (.step up) fl v = out r fl.c := (Change.apply_step_of_eq h fl).trans (hout r fl.c)
  refine ⟨hshift ?asl, hshift ?lsr, hshift ?rol, hshift ?ror, hshift ?asr, hstep ?inc, hstep ?dec⟩
  case asl => exact congrArg₂ Prod.mk (shiftLeft_one_eq v) (msb_eq_getLsbD v)
  case lsr => exact congrArg (·, v.getLsbD 0) (ushiftRight_one_eq v)
  case rol => exact congrArg₂ Prod.mk (rotateLeft_eq v fl.c) (msb_eq_getLsbD v)
  case ror => exact congrArg (·, v.getLsbD 0) (rotateRight_eq v fl.c)
  case asr => exact congrArg (·, v.getLsbD 0) (sshiftRight_one_eq v)
  case inc => exact add_one_eq v
  case dec => exact sub_one_eq v

end Sys2Proof.Machine

/-! That every instruction completes (`60_exceptions.md` R451), and the interrupt entry sequence that BRK, IRQ and NMI share
(R455 to R457): three bytes pushed, then the vector read. -/

namespace Sys2Proof.Machine

/-- ADCQ and SBCQ are stopped by D alone. -/
theorem AluOp.decimalStop_eq_none_iff {op : AluOp} : op.decimalStop = none ↔ op ≠ .adc ∧ op ≠ .sbc := by
  cases op <;> simp [AluOp.decimalStop]

theorem State.aluQ_completes {op : AluOp} {s : State} (h : s.fl.d = true → op.decimalStop = none) (m : MemMode)
    (len : Nat) : ∃ t, s.aluQ op m len = .next t := by
  have hstop : (if s.fl.d then op.decimalStop else none) = none := by
    split
    · exact h ‹_›
    · rfl
  simp only [State.aluQ, hstop]
  exact ⟨_, rfl⟩

/-- Settles O8: each form but the two refused ones ends in `Ctx.done`. -/
theorem everyInstructionCompletes : Obligations.EveryInstructionCompletes := by
  intro i s hreserved hdecimal
  rw [exec_form]
  cases hform : formOf i with
  | reserved n => exact absurd hform (hreserved n)
  | aluQ op m len =>
    refine State.aluQ_completes (fun hd => AluOp.decimalStop_eq_none_iff.mpr ⟨?_, ?_⟩) m len
    · rintro rfl
      exact (hdecimal hd m len).1 hform
    · rintro rfl
      exact (hdecimal hd m len).2 hform
  | _ => exact ⟨_, rfl⟩

/-! ### The interrupt entry sequence (R455) -/

/-- The flags that interrupt entry leaves: I set, and D by `IntClearsD`. -/
def State.masked (s : State) : State :=
  { s with fl := { s.fl with i := true, d := if s.cfg.intClearsD then false else s.fl.d } }

/-- Once the three bytes are pushed, the flags are changed and a plain vector is read. -/
theorem Ctx.interrupt_of_pushed {c : Ctx} {u : State} {vector ret dest : Word} {brk : Bool}
    (hpushed : (c.push16 ret).push8 ((c.push16 ret).st.fl.pack brk) = Ctx.of u)
    (hvector : u.peek16 (.cpu vector) = some dest) :
    c.interrupt vector ret brk = Ctx.of { u.masked with pc := dest } := by
  have hread : ((Ctx.of u).upd State.masked).read16 (.cpu vector) = (dest, (Ctx.of u).upd State.masked) :=
    Ctx.read16_of_peek16 hvector
  rw [Ctx.interrupt, hpushed]
  exact congrArg (fun r : Word × Ctx => r.2.upd fun s => { s with pc := r.1 }) hread

section
variable {s : State} {p0 p1 p2 : Phys} (h0 : s.ramAt (.cpu (s.sph ++ s.spl)) = some p0)
  (h1 : s.ramAt (.cpu (s.spPlus 0xFFFF#16)) = some p1) (h2 : s.ramAt (.cpu (s.spPlus 0xFFFE#16)) = some p2)
include h0 h1 h2

/-- With its stack in RAM, the sequence pushes the return address, high byte first, and the flags as they were. -/
theorem Ctx.interrupt_of_ramAt (vector ret : Word) (brk : Bool) {dest : Word}
    (hvector : (s.pushed [(p0, highByte ret), (p1, lowByte ret), (p2, s.fl.pack brk)] 0xFFFD#16).peek16 (.cpu vector) =
      some dest) : (Ctx.of s).interrupt vector ret brk =
      Ctx.of { (s.pushed [(p0, highByte ret), (p1, lowByte ret), (p2, s.fl.pack brk)] 0xFFFD#16).masked with
        pc := dest } := by
  refine Ctx.interrupt_of_pushed ?_ hvector
  rw [Ctx.push16_first h0 h1]
  exact Ctx.push8_pushed h2 [(p0, highByte ret), (p1, lowByte ret)] (s.fl.pack brk)

end

/-- Settles O42: the three are one entry sequence, from the state past BRK or with the boundary marked; its pushes do not
see PC or the marks. -/
theorem breakAndInterruptEntry : Obligations.BreakAndInterruptEntry := by
  intro s p0 p1 p2 sig dest h0 h1 h2 status ws u fl
  refine ⟨fun hvector => ?brk, fun hvector => ?irq, fun hvector => ?nmi, fun ret brk => State.writes_pushed rfl _ _⟩
  case brk =>
    exact congrArg Ctx.done
      (Ctx.interrupt_of_ramAt (s := s.advance 2) h0 h1 h2 vectorIrq (s.pc + 2#16) true hvector)
  case irq =>
    exact congrArg Ctx.finish
      (Ctx.interrupt_of_ramAt (s := { s with atEntry := true }) h0 h1 h2 vectorIrq s.pc false hvector)
  case nmi =>
    exact congrArg Ctx.finish
      (Ctx.interrupt_of_ramAt (s := { s with atEntry := true, nmiPending := false }) h0 h1 h2 vectorNmi s.pc false
        hvector)

end Sys2Proof.Machine

/-! Trap entry and trap return (`60_exceptions.md` R470 to R480): each register goes to its own slot of `HREG` and comes
back from it, entry maps the hypervisor memory at `$8000`, and a write of `$D67F` in hypervisor mode ends in the return. -/

namespace Sys2Proof.Machine

/-! ### What the parameters' well-formedness says (R472, R476) -/

theorem HregLayout.slots_eq_map (l : HregLayout) : l.slots = savedItems.map (SavedItem.slot l) := rfl

theorem SavedItem.mem_savedItems (it : SavedItem) : it ∈ savedItems := by cases it <;> decide

theorem Config.wf_iff {c : Config} : c.wf = true ↔
    c.hregLayout.slots.Nodup ∧ hregExit ∉ c.hregLayout.slots ∧ c.hyperBase.extractLsb' 0 8 = 0x00#8 ∧
      (c.hyperBase.extractLsb' 0 20).toNat ≤ 0xFC000 := by
  simp [Config.wf, HregLayout.wf, and_assoc]

/-! ### Step 2 of trap entry: each register in its slot (R470, R476) -/

theorem State.savedHreg_append_singleton (s : State) (items : List SavedItem) (it : SavedItem) :
    s.savedHreg (items ++ [it]) =
      (s.savedHreg items).set (it.slot s.cfg.hregLayout).toNat (it.value s) (it.slot s.cfg.hregLayout).isLt :=
  List.foldl_concat ..

/-- With a slot of its own for each item, a slot holds its item's byte. -/
theorem State.savedHreg_slot {s : State} {items : List SavedItem}
    (hnodup : (items.map (SavedItem.slot s.cfg.hregLayout)).Nodup) {it : SavedItem} (hit : it ∈ items) :
    (s.savedHreg items)[(it.slot s.cfg.hregLayout).toNat]'(it.slot s.cfg.hregLayout).isLt = it.value s := by
  induction items using List.reverseRecOn with
  | nil => cases hit
  | append_singleton items last ih =>
    simp only [State.savedHreg_append_singleton]
    rw [List.map_append, List.nodup_append] at hnodup
    obtain ⟨hitems, -, hlast⟩ := hnodup
    by_cases heq : it = last
    · subst heq
      exact Vector.getElem_set_self ..
    · have hmem : it ∈ items := (List.mem_append.mp hit).resolve_right (by simpa using heq)
      have hslot : it.slot s.cfg.hregLayout ≠ last.slot s.cfg.hregLayout :=
        hlast _ (List.mem_map_of_mem hmem) _ (List.mem_singleton_self _)
      rw [Vector.getElem_set_ne _ _ fun h => hslot (BitVec.eq_of_toNat_eq h.symm)]
      exact ih hitems hmem

theorem State.saved_trapEnter {s : State} (hwf : s.cfg.wf = true) (n : BitVec 7) (it : SavedItem) :
    (s.trapEnter n).saved it = it.value s := by
  obtain ⟨hnodup, -⟩ := Config.wf_iff.mp hwf
  rw [HregLayout.slots_eq_map] at hnodup
  exact State.savedHreg_slot hnodup it.mem_savedItems

/-! ### Step 3 of trap entry: the hypervisor memory at `$8000` (R472) -/

/-- Blocks 4 and 5, which trap entry enables, reach the hypervisor memory: its base is a multiple of 256, and its end does
not carry out of 20 bits. -/
theorem State.trapMap_translate {s : State} (hwf : s.cfg.wf = true) {a : Word} (hlow : 0x8000 ≤ a.toNat)
    (hhigh : a.toNat < 0xC000) :
    s.trapMap.translate a = some (s.cfg.hyperBase + BitVec.ofNat 28 (a.toNat - 0x8000)) := by
  obtain ⟨-, -, hpage, hend⟩ := Config.wf_iff.mp hwf
  have henabled : s.trapMap.hiEn = 0x3#4 := rfl
  have hon : s.trapMap.hiEn.getLsbD (a.toNat / 8192 - 4) = true := by
    obtain h | h : a.toNat / 8192 = 4 ∨ a.toNat / 8192 = 5 := by omega
    all_goals rw [henabled, h]; decide
  have hbase := s.cfg.hyperBase.isLt
  rw [MapRegs.translate_upper (by omega) hon, Option.some_inj]
  apply BitVec.eq_of_toNat_eq
  rw [mapped_toNat, BitVec.toNat_add, BitVec.toNat_ofNat]
  simp only [← BitVec.toNat_inj, BitVec.extractLsb'_toNat, BitVec.toNat_ofNat, Nat.shiftRight_zero] at hpage hend
  simp only [State.trapMap, BitVec.toNat_sub, BitVec.extractLsb'_toNat, BitVec.toNat_ofNat, Nat.shiftRight_eq_div_pow]
  omega

theorem State.translate_trapEnter {s : State} (hwf : s.cfg.wf = true) (n : BitVec 7) (acc : Access) {a : Word}
    (hlow : 0x8000 ≤ a.toNat) (hhigh : a.toNat < 0xC000) :
    (s.trapEnter n).translate acc a = .phys (s.cfg.hyperBase + BitVec.ofNat 28 (a.toNat - 0x8000)) := by
  have hmap := State.trapMap_translate (s := s.saveRegs) (by rwa [State.saveRegs_cfg]) hlow hhigh
  rw [State.saveRegs_cfg] at hmap
  exact State.translate_of_hyper_of_map (State.trapEnter_hyper n s) hmap acc

theorem State.trapEnter_fl (n : BitVec 7) (s : State) :
    (s.trapEnter n).fl = { s.fl with d := false, i := true, e := true } := by
  simp only [State.trapEnter, State.enterHyper, State.saveRegs_fl]

theorem State.trapEnter_portDdr (n : BitVec 7) (s : State) : (s.trapEnter n).portDdr = s.cfg.hyperPortDdr := by
  simp only [State.trapEnter, State.enterHyper, State.saveRegs_cfg]

theorem State.trapEnter_portData (n : BitVec 7) (s : State) : (s.trapEnter n).portData = s.cfg.hyperPortData := by
  simp only [State.trapEnter, State.enterHyper, State.saveRegs_cfg]

/-- Settles O51: the registers saved and the window are the two facts that need the parameters, the rest are fields of
trap entry; a SYSCALL that is due is the event taken. -/
theorem trapEntry : Obligations.TrapEntry := by
  constructor
  · intro s n t
    exact ⟨fun hwf => State.saved_trapEnter hwf n, by simp [t], State.trapEnter_pc_toNat n s, rfl, State.trapEnter_fl n s,
      rfl, rfl, rfl, by simp [t], by simp [t], by simp [t], by simp [t], by simp [t], rfl, rfl,
      State.trapEnter_portDdr n s, State.trapEnter_portData n s, rfl, fun hwf acc _ => State.translate_trapEnter hwf n acc⟩
  · intro s n hsyscall hreset hnormal hentry
    refine step_of_event (e := .syscall n) ?_
    rw [State.eventNow_of_not_atEntry hentry, State.event_of_syscall hreset hnormal hsyscall]

theorem trapVector_reset : trapVector trapReset = 0x8100#16 := by decide

/-- Settles O53. -/
theorem resetEvent : Obligations.ResetEvent := by
  intro s t
  have hfl := State.trapEnter_fl trapReset { s with speedBias := 0x80#8, resetLine := false, syscall := none }
  exact ⟨trapVector_reset, rfl, congrArg Flags.d hfl, congrArg Flags.i hfl, congrArg Flags.e hfl, rfl, rfl, rfl, rfl, rfl,
    by simp [t, State.take, State.takeReset], by simp [t, State.take, State.takeReset],
    by simp [t, State.take, State.takeReset], by simp [t, State.take, State.takeReset]⟩

/-! ### The return (R480) -/

theorem Flags.ofSaved_pack (fl : Flags) (brk : Bool) : Flags.ofSaved (fl.pack brk) = fl := by
  simp only [Flags.ofSaved, Flags.pack, BitVec.getLsbD_append, BitVec.getLsbD_ofBool]
  rfl

/-- A half's offset, put together again from the two bytes it is saved in (R476). -/
theorem offset_of_saved (en : BitVec 4) (off : BitVec 12) :
    (en ++ off.extractLsb' 8 4).extractLsb' 0 4 ++ off.extractLsb' 0 8 = off := by
  rw [BitVec.extractLsb'_append_eq_right, BitVec.extractLsb'_append_extractLsb'_eq_extractLsb' (by rfl),
    BitVec.extractLsb'_eq_self]

theorem enables_of_saved (en off : BitVec 4) : (en ++ off).extractLsb' 4 4 = en := BitVec.extractLsb'_append_eq_left

/-- The byte that holds a half's enables and the top of its offset is those two nibbles (R476). -/
theorem saved_of_enables_offset (hi lo : Byte) :
    hi.extractLsb' 4 4 ++ (hi.extractLsb' 0 4 ++ lo).extractLsb' 8 4 = hi := by
  rw [BitVec.extractLsb'_append_eq_left, BitVec.extractLsb'_append_extractLsb'_eq_extractLsb' (by rfl),
    BitVec.extractLsb'_eq_self]

/-- The trap return gives back every register that the slots hold. -/
theorem State.trapReturn_of_saved {s u : State} (hsaved : ∀ it, u.saved it = it.value s)
    (hinhibit : u.savedMapInhibit = s.mapInhibit) : u.trapReturn =
      { u with
        a := s.a, x := s.x, y := s.y, z := s.z, b := s.b, spl := s.spl, sph := s.sph, fl := s.fl, pc := s.pc
        map := s.map, portDdr := s.portDdr, portData := s.portData, ioMode := s.ioMode
        mapInhibit := s.mapInhibit, hyper := false } := by
  have hpc : s.pc.extractLsb' 8 8 ++ s.pc.extractLsb' 0 8 = s.pc := highByte_append_lowByte s.pc
  simp only [State.trapReturn, hsaved, SavedItem.value, hinhibit, Flags.ofSaved_pack, hpc, offset_of_saved,
    enables_of_saved]

theorem State.trapReturn_trapEnter {s : State} (hwf : s.cfg.wf = true) (n : BitVec 7) : (s.trapEnter n).trapReturn =
    { s with
      hyper := false, hreg := s.savedHreg savedItems, savedMapInhibit := s.mapInhibit, free := s.free + 1
      atEntry := true } := by
  rw [State.trapReturn_of_saved (State.saved_trapEnter hwf n) (by simp)]
  simp [State.trapEnter, State.enterHyper, State.saveRegs]

/-- Each item but P is the byte that its slot holds. -/
theorem SavedItem.value_trapReturn {it : SavedItem} (h : it ≠ .p) (u : State) : it.value u.trapReturn = u.saved it := by
  cases it with
  | p => exact absurd rfl h
  | pcLow => exact BitVec.extractLsb'_append_eq_right
  | pcHigh => exact BitVec.extractLsb'_append_eq_left
  | mapLo0 => exact BitVec.extractLsb'_append_eq_right
  | mapHi0 => exact BitVec.extractLsb'_append_eq_right
  | mapLo1 | mapHi1 => exact saved_of_enables_offset ..
  | _ => rfl

/-! ### A write of `$D67F` in hypervisor mode (R480) -/

theorem Ctx.write8_of_exits {c : Ctx} {pl : Place} (h : (c.site .write pl).exits) (v : Byte) :
    c.write8 pl v = { st := { c.st with hreg := c.st.hreg.set 63 v }, leave := true } := by
  obtain ⟨-, hhyper, hmode, p, hphys, hkind⟩ := h
  have htarget : c.st.target .write pl = .phys p := Site.phys_eq_some_iff.mp hphys
  have hvirt : c.ioWrite 0x67F#12 p v = c.virtWrite hregExit p v := Ctx.ioWrite_virt hmode hregExit p v
  have hhyper' : c.st.hyper = true := hhyper
  rw [Ctx.write8_of_io htarget hkind, hvirt, Ctx.virtWrite, if_pos hhyper']
  rfl

theorem Ctx.done_of_leave {c : Ctx} (h : c.leave = true) : c.done = .next c.st.trapReturn := by
  rw [Ctx.done, Ctx.finish, if_pos h]

/-- An instruction that wrote `$D67F` in hypervisor mode ends in the return. -/
theorem exec_trapReturn_of_exits {i : Instr} {s t : State} (h : exec i s = .next t)
    (hexits : ∃ x ∈ (formOf i).sites s, x.exits) : ∃ u : State, u.hyper = true ∧ t = u.trapReturn := by
  obtain ⟨c, ⟨hleave, -, hhyper, hduring⟩, rfl⟩ := exec_tracks i s t h
  obtain ⟨x, hx, -, hxhyper, -⟩ := id hexits
  exact ⟨c.st, by rw [hhyper, ← hduring x hx, hxhyper], if_pos (hleave.mpr (.inr hexits))⟩

/-- Settles O52: a store is its one write, and the return reads off the slots, which hold what the entry saved. -/
theorem trapReturn : Obligations.TrapReturn := by
  refine ⟨?store, fun c pl v => (Ctx.write8_of_exits · v), fun c => Ctx.done_of_leave,
    fun i s t => exec_trapReturn_of_exits, ?entry,
    fun u => ⟨fun it h => SavedItem.value_trapReturn h u, rfl, rfl, rfl, rfl⟩⟩
  case store =>
    intro i s r m len pl p hform hplace htarget hkind hmode hhyper
    have hexits : ((Ctx.of (s.advance len)).site .write pl).exits :=
      ⟨rfl, hhyper, hmode, p, Site.phys_eq_some_iff.mpr htarget, hkind⟩
    rw [exec_store_of_place hform hplace, Ctx.write8_of_exits hexits, Ctx.done_of_leave rfl]
    rfl
  case entry =>
    intro s n hwf
    dsimp only
    rw [State.trapReturn_trapEnter hwf]

end Sys2Proof.Machine

/-! Accesses of `$D640` to `$D67F` in normal mode (`60_exceptions.md` R461, `20_memory.md` R74, `41_q_load_store.md` R193): a
write raises its SYSCALL and stores nothing, a read raises it by `SyscallOnRead`, and the instruction's other accesses go on. -/

namespace Sys2Proof.Machine

/-! ### One access of a SYSCALL register -/

@[simp] theorem Ctx.finish_syscall (c : Ctx) : c.finish.syscall = c.st.syscall := by
  unfold Ctx.finish
  split <;> rfl

/-- An instruction that completes leaves the lowest SYSCALL touched, a trap return or not. -/
theorem exec_syscall_lowest {i : Instr} {s t : State} (h : exec i s = .next t) :
    Lowest (Raised s.syscall ((formOf i).sites s)) t.syscall := by
  obtain ⟨c, ⟨-, hsyscall, -, -⟩, rfl⟩ := exec_tracks i s t h
  rw [Ctx.finish_syscall]
  exact hsyscall

section
variable {c : Ctx} {pl : Place} {p : Phys} {n : BitVec 6}

theorem Ctx.write8_of_normal_virt (ht : c.st.target .write pl = .phys p)
    (hk : c.st.kindOf p = .io (0x640#12 + n.setWidth 12)) (hmode : c.st.ioMode = ioMega65)
    (hnormal : c.st.hyper = false) (v : Byte) : c.write8 pl v = c.touch n := by
  rw [Ctx.write8_of_io ht hk, Ctx.ioWrite_virt hmode, Ctx.virtWrite, if_neg (by simp [hnormal])]

theorem Ctx.write8_of_syscalls (h : (c.site .write pl).syscalls n) (v : Byte) : c.write8 pl v = c.touch n := by
  obtain ⟨-, hnormal, hmode, p, hphys, hkind⟩ := h
  exact Ctx.write8_of_normal_virt (Site.phys_eq_some_iff.mp hphys) hkind hmode hnormal v

theorem Ctx.read8_of_normal_virt (ht : c.st.target .read pl = .phys p)
    (hk : c.st.kindOf p = .io (0x640#12 + n.setWidth 12)) (hmode : c.st.ioMode = ioMega65)
    (hnormal : c.st.hyper = false) : c.read8 pl =
      ((c.answer p).1, if c.st.cfg.syscallOnRead then (c.answer p).2.touch n else (c.answer p).2) := by
  have hreg : c.st.ioReg (0x640#12 + n.setWidth 12) = .virt n := (State.ioReg_virt ..).mpr ⟨hmode, rfl⟩
  simp only [Ctx.read8, ht, Ctx.readTarget, Ctx.physRead, hk, Ctx.ioRead, hreg, Ctx.virtRead, reduceCtorEq, if_false,
    hnormal, Bool.false_eq_true, Ctx.answer_cfg]

/-- The first SYSCALL register read raises its SYSCALL, if a read does (R74, D32). -/
theorem Ctx.read8_syscall_of_normal_virt (ht : c.st.target .read pl = .phys p)
    (hk : c.st.kindOf p = .io (0x640#12 + n.setWidth 12)) (hmode : c.st.ioMode = ioMega65)
    (hnormal : c.st.hyper = false) (hnone : c.st.syscall = none) :
    (c.read8 pl).2.st.syscall = if c.st.cfg.syscallOnRead then some n else none := by
  have hanswer : (c.answer p).2.st.syscall = none := (Ctx.answer_syscall p c).trans hnone
  rw [Ctx.read8_of_normal_virt ht hk hmode hnormal]
  dsimp only
  split
  · rw [Ctx.touch, Ctx.upd_st, hanswer, lowerSyscall]
  · exact hanswer

end

/-! ### A load of a SYSCALL register -/

section
variable {i : Instr} {s : State} {r : Reg} {m : MemMode} {len : Nat} {pl : Place}

theorem exec_load_of_read8 {v : Byte} {c : Ctx} (hform : formOf i = .load r (.mem m) len) (hplace : s.place m = some pl)
    (hread : (Ctx.of (s.advance len)).read8 pl = (v, c)) :
    exec i s = (c.upd fun s => s.setRegNZ r v).done := by
  rw [exec_form, hform, Form.run, State.load, Ctx.operand, Ctx.start_ea_of_place hplace]
  simp only [hread]

/-- A load changes its register, N and Z, and what a read can change. -/
theorem exec_load_frame (hform : formOf i = .load r (.mem m) len) (hplace : s.place m = some pl) :
    ∃ t, exec i s = .next t ∧ t.syscall = ((Ctx.of (s.advance len)).read8 pl).2.st.syscall ∧
      t.fl = s.fl.nz (t.reg r) ∧
      t = { (s.advance len).setReg r (t.reg r) with
            fl := t.fl, syscall := t.syscall, answers := t.answers, trace := t.trace, free := t.free } := by
  have hframe := Ctx.read8_frame pl (Ctx.of (s.advance len))
  rcases hread : (Ctx.of (s.advance len)).read8 pl with ⟨v, c⟩
  rw [exec_load_of_read8 hform hplace hread]
  rw [hread] at hframe
  obtain ⟨an, fr, tr, sy, rfl⟩ := hframe
  refine ⟨_, rfl, ?_⟩
  cases r <;> exact ⟨rfl, rfl, rfl⟩

end

/-! ### Bytes written to devices and to SYSCALL registers -/

/-- The state after bytes written to devices, which are recorded, and to SYSCALL registers, with the SYSCALL then raised. -/
def State.busWritten (s : State) (ws : List (Phys × Byte)) (o : Option (BitVec 6)) : State :=
  { s with
    syscall := o
    trace := ((ws.filter fun w => s.isDevice w.1).map fun w => .write w.1 w.2).reverse ++ s.trace }

theorem State.busWritten_nil (s : State) : s.busWritten [] s.syscall = s := rfl

theorem State.isDevice_of_virt {s : State} {p : Phys} {n : BitVec 6} (hmode : s.ioMode = ioMega65)
    (hk : s.kindOf p = .io (0x640#12 + n.setWidth 12)) : s.isDevice p = false := by
  have hreg : s.ioReg (0x640#12 + n.setWidth 12) = .virt n := (State.ioReg_virt ..).mpr ⟨hmode, rfl⟩
  simp only [State.isDevice, hk, hreg]
  rfl

theorem State.busWritten_device {s : State} {p : Phys} (h : s.isDevice p = true) (ws : List (Phys × Byte))
    (o : Option (BitVec 6)) (v : Byte) : s.busWritten (ws ++ [(p, v)]) o =
      { s.busWritten ws o with trace := .write p v :: (s.busWritten ws o).trace } := by
  simp [State.busWritten, List.filter_append, h]

theorem State.busWritten_other {s : State} {p : Phys} (h : s.isDevice p = false) (ws : List (Phys × Byte))
    (o o' : Option (BitVec 6)) (v : Byte) : s.busWritten (ws ++ [(p, v)]) o' = { s.busWritten ws o with syscall := o' } := by
  simp [State.busWritten, List.filter_append, h]

theorem Ctx.write8_busWritten {s : State} {pl : Place} {p : Phys} (hmode : s.ioMode = ioMega65) (hnormal : s.hyper = false)
    (ht : s.target .write pl = .phys p)
    (hp : s.isDevice p = true ∨ ∃ n : BitVec 6, s.kindOf p = .io (0x640#12 + n.setWidth 12)) (ws : List (Phys × Byte))
    (o : Option (BitVec 6)) (v : Byte) :
    ∃ o', (Ctx.of (s.busWritten ws o)).write8 pl v = Ctx.of (s.busWritten (ws ++ [(p, v)]) o') := by
  obtain hdevice | ⟨n, hk⟩ := hp
  · refine ⟨o, ?_⟩
    rw [Ctx.write8_of_isDevice (c := Ctx.of (s.busWritten ws o)) ht hdevice, State.busWritten_device hdevice]
    rfl
  · refine ⟨some (lowerSyscall n o), ?_⟩
    rw [Ctx.write8_of_normal_virt (c := Ctx.of (s.busWritten ws o)) ht hk hmode hnormal,
      State.busWritten_other (State.isDevice_of_virt hmode hk) ws o]
    rfl

theorem Ctx.write32_busWritten {s : State} {pl : Place} {p0 p1 p2 p3 : Phys} (hmode : s.ioMode = ioMega65)
    (hnormal : s.hyper = false) (h0 : s.target .write pl = .phys p0) (h1 : s.target .write (pl.plus 1) = .phys p1)
    (h2 : s.target .write (pl.plus 2) = .phys p2) (h3 : s.target .write (pl.plus 3) = .phys p3)
    (hps : ∀ p ∈ [p0, p1, p2, p3],
      s.isDevice p = true ∨ ∃ n : BitVec 6, s.kindOf p = .io (0x640#12 + n.setWidth 12)) (v : Quad) :
    ∃ o, (Ctx.of s).write32 pl v = Ctx.of (s.busWritten [(p0, v.extractLsb' 0 8), (p1, v.extractLsb' 8 8),
      (p2, v.extractLsb' 16 8), (p3, v.extractLsb' 24 8)] o) := by
  obtain ⟨o0, hw0⟩ := Ctx.write8_busWritten hmode hnormal h0 (hps p0 (by simp)) [] s.syscall (v.extractLsb' 0 8)
  obtain ⟨o1, hw1⟩ := Ctx.write8_busWritten hmode hnormal h1 (hps p1 (by simp)) _ o0 (v.extractLsb' 8 8)
  obtain ⟨o2, hw2⟩ := Ctx.write8_busWritten hmode hnormal h2 (hps p2 (by simp)) _ o1 (v.extractLsb' 16 8)
  obtain ⟨o3, hw3⟩ := Ctx.write8_busWritten hmode hnormal h3 (hps p3 (by simp)) _ o2 (v.extractLsb' 24 8)
  rw [State.busWritten_nil] at hw0
  exact ⟨o3, by rw [Ctx.write32, hw0, hw1, hw2, hw3]; rfl⟩

/-- Settles O50: the accesses are tracked for every instruction; a store or a load is its one access, and STQ goes on over
all four bytes. -/
theorem syscallAccess : Obligations.SyscallAccess := by
  refine ⟨fun i s t => exec_syscall_lowest, fun c pl v n h => by rw [Ctx.write8_of_syscalls h]; rfl, ?one, ?quad⟩
  case one =>
    intro i s r m len pl p n hplace hk hmode hnormal hnone
    constructor
    · intro hform ht
      have hwrite := Ctx.write8_of_normal_virt (c := Ctx.of (s.advance len)) ht hk hmode hnormal (s.reg r)
      have htouch : (Ctx.of (s.advance len)).touch n = Ctx.of { s.advance len with syscall := some n } := by
        rw [Ctx.touch, Ctx.upd_of, State.advance_syscall, hnone, lowerSyscall]
      rw [exec_store_of_place hform hplace, hwrite, htouch, Ctx.done_of]
    · intro hform ht
      obtain ⟨t, hexec, hsyscall, hfl, hframe⟩ := exec_load_frame hform hplace
      refine ⟨t, hexec, hsyscall.trans ?_, hfl, hframe⟩
      exact Ctx.read8_syscall_of_normal_virt (c := Ctx.of (s.advance len)) ht hk hmode hnormal hnone
  case quad =>
    intro i s m len pl p0 p1 p2 p3 hform hplace hnormal hmode h0 h1 h2 h3 ws hws
    have hps : ∀ p ∈ [p0, p1, p2, p3],
        s.isDevice p = true ∨ ∃ n : BitVec 6, s.kindOf p = .io (0x640#12 + n.setWidth 12) := by
      intro p hp
      obtain ⟨w, hw, rfl⟩ := List.mem_map.mp (show p ∈ ws.map Prod.fst from hp)
      exact hws w hw
    obtain ⟨o, hwrite⟩ := Ctx.write32_busWritten (s := s.advance len) hmode hnormal h0 h1 h2 h3 hps (s.advance len).q
    rw [State.q_byte0, State.q_byte1, State.q_byte2, State.q_byte3] at hwrite
    rw [exec_form, hform, Form.run, State.storeQ, Ctx.start_ea_of_place hplace]
    exact ⟨_, congrArg Ctx.done hwrite, rfl⟩

end Sys2Proof.Machine
